-- ==== Sys2Proof/Word.lean ====
section
/-! DEFINITION. The two word sizes of the machine: every memory access and every general register is
8 bits wide, every address is 16 bits wide (R6, R10, R50). Arithmetic on them wraps (R7, R80). -/

namespace Sys2Proof

/-- One byte: the width of `A, B, C, D, E, H, L, F` and of every memory access (R6, R69). -/
abbrev Byte := BitVec 8

/-- One 16-bit word: the width of `PC`, `SP` and every address (R6, R50). -/
abbrev Word := BitVec 16

/-- A shade 0 to 3, the output of a palette register (R45, R397). -/
abbrev Shade := BitVec 2

end Sys2Proof
end

