-- ==== Sys2Proof/Config.lean ====
section
/-! DEFINITION. What is fixed for a machine and is not state: the parameters of R6, and the open values of
the spec, each an opaque constant of which nothing can be proved. The sound unit's channel state stands here
because the open functions below talk about it. -/

namespace Sys2Proof

/-- One voice of the sound unit, the fields R28 and R441 name. The source gives no widths, so the counters are
natural numbers (log 11). -/
structure Channel where
  /-- the length counter -/
  lengthCounter : Nat
  /-- "set to repeat": the length counter does not silence the channel -/
  repeats : Bool
  /-- the channel's DAC is powered -/
  dacOn : Bool
  /-- pulse channels: the frequency sweep has overflowed -/
  sweepOverflowed : Bool
  envelopeCounter : Nat
  envelopeVolume : Nat
  /-- the envelope's direction, up or down -/
  envelopeUp : Bool
  sweepCounter : Nat
  shadowFrequency : Nat
  /-- the duty index of a pulse channel, the wave index of the wavetable channel -/
  waveIndex : Nat
  /-- channel 4: the short period of its pseudo-random bit sequence is selected -/
  shortPeriod : Bool
  /-- the internal phase accumulator, in clock cycles -/
  phase : Nat
  /-- left and right routing bits -/
  left : Bool
  right : Bool
  deriving DecidableEq, Repr, Inhabited

/-- The sound unit: the 8-step sequencer, the four channels, the two master volumes and the seed of the noise table
(R441). -/
structure Apu where
  /-- cycles since the last sequencer step -/
  sequencerCycles : Nat
  /-- the sequencer step, 0 to 7 -/
  sequencerStep : Nat
  pulse1 : Channel
  pulse2 : Channel
  wave : Channel
  noise : Channel
  volumeLeft : Nat
  volumeRight : Nat
  /-- "an explicit seed held in the Apu's own state" -/
  noiseSeed : Nat
  deriving DecidableEq, Repr, Inhabited

/-- The four kinds of voice of R441: "two pulse, one wavetable, one noise". -/
inductive Voice
  | pulse1 | pulse2 | wave | noise
  deriving DecidableEq, Repr

/-- What one envelope clock gives a channel: "envelope counter/volume" (R441). The direction is a setting, which a clock
leaves. -/
structure EnvelopeValues where
  counter : Nat
  volume : Nat
  deriving DecidableEq, Repr, Inhabited

/-- What one sweep clock gives pulse channel 1: "sweep counter/shadow frequency" and whether it has "sweep-overflowed"
(R441). -/
structure SweepValues where
  counter : Nat
  shadowFrequency : Nat
  overflowed : Bool
  deriving DecidableEq, Repr, Inhabited

namespace Config

/-- `SENTINEL`, the byte read from unmapped or disabled locations (R6). -/
def sentinel : Byte := 0xFF

/-- `STOP_SKIPS_OPERAND` (R6, R284): opcode 0x10 consumes a second byte. The spec's default. -/
def stopSkipsOperand : Bool := false

/-- `INIT_RAM` (R6, R456): the contents of VRAM, work RAM, OAM, HRAM, external RAM at reset, the spec's
default, all zero (log 2). -/
def initRam : Byte := 0x00

/-- The shortest cartridge image that is accepted (R6, R337). -/
def minImageLength : Nat := 0x150

/-- `SPRITE_ORDER` (R6, R395): the order in which the 40 sprite-table entries are tried; the default is
ascending table index. -/
def spriteOrder : List Nat := List.range 40

/-- Cycles between two steps of the sound unit's sequencer, "≈512 Hz-equivalent" (R441; log 11). -/
def sequencerPeriod : Nat := 8192

/-- `PALETTE[0..3]` (R6, R397): the four output colours, 4 bytes each. The spec leaves them open. -/
opaque palette : Shade → BitVec 32

/-- The external-RAM size that a RAM-size code outside the table of R93 stands for, which the spec does not
state (log 6). -/
opaque unlistedRamSize : Byte → Nat

/-- The ROM size that a ROM-size code above 8 declares, which R93 does not state (log 6). -/
opaque unlistedRomSize : Byte → Nat

/-- What a write of a byte to a sound register (offset 0x10 to 0x3F) does to the sound unit. The register map
is in no source (R4, R441), so this is a free function (log 11). -/
opaque soundWrite : Nat → Byte → Apu → Apu

/-- The values one clock of a channel's envelope gives; the source gives no formula (R441; log 11). -/
opaque envelopeClock : Channel → EnvelopeValues

/-- The values one clock of the frequency sweep of pulse channel 1 gives; the source gives no formula (R441; log 11). -/
opaque sweepClock : Channel → SweepValues

/-- The pseudo-random bit sequence of channel 4 that a seed generates, of the short or of the long period; the polynomial
and the periods are in no source (R441; log 11). -/
opaque noiseBits : Bool → Nat → List Bool

/-- The raw waveform sample of a voice, computed "on demand from its internal phase accumulator", the wave bytes and
the noise sequence; the tables are in no source (R441; log 11). The spec gives samples before the filter no number type:
DESIGN CHOICE, exact integers (log 11). -/
opaque rawSample : Voice → Channel → List Byte → List Bool → Int

end Config

end Sys2Proof
end

