-- ==== Sys2Proof/Machine/Bits.lean ====
section
/-! DEFINITION. Byte-order, sign-extension and bit-field helpers (R7, R70, R121, R127). -/

namespace Sys2Proof.Machine

/-- `hi ++ lo` of R7: the 16-bit word with high byte `hi` and low byte `lo`. -/
def joinBytes (hi lo : Byte) : Word := hi ++ lo

/-- `v[15:8]`. -/
def highByte (v : Word) : Byte := v.extractLsb' 8 8

/-- `v[7:0]`. -/
def lowByte (v : Word) : Byte := v.extractLsb' 0 8

/-- `zext_16` of R7. -/
def zext16 (v : Byte) : Word := v.setWidth 16

/-- `sext_16` of R7: two's complement sign extension. -/
def sext16 (v : Byte) : Word := v.signExtend 16

/-- `op[7:6]`, `op[5:3]`, `op[2:0]` of R121, as numbers. -/
def fieldX (op : Byte) : Nat := op.toNat / 64
def fieldY (op : Byte) : Nat := op.toNat / 8 % 8
def fieldZ (op : Byte) : Nat := op.toNat % 8

/-- The low nibble `v[3:0]` as a number. -/
def lowNibble (v : Byte) : Nat := v.toNat % 16

/-- A one-bit value as a number. -/
def bitVal (b : Bool) : Nat := if b then 1 else 0

/-- The 8-bit mask `1 << i`. -/
def bitMask (i : Nat) : Byte := BitVec.ofNat 8 (2 ^ i)

end Sys2Proof.Machine
end

