-- ==== Sys2Proof/Syntax.lean ====
section
/-! DEFINITION. The instruction set as syntax: one constructor for each of the 512 rows of the opcode table
(R128, R129, R138), and the instruction families as functions of their operand fields (R123 to R126).
A constructor's name spells its mnemonic: `Ind` stands for the parentheses of a memory operand, `Inc` and `Dec`
for the `+` and `-` of `(HL+)` and `(HL-)` (R136). -/

namespace Sys2Proof

/-- The seven 8-bit registers of the operand table, `r[i]` with `i` other than 6 (R123). -/
inductive Reg8
  | b | c | d | e | h | l | a
  deriving DecidableEq, Repr

/-- The operand table `r[i]` (R123): a register, or the memory byte `(HL)`. -/
inductive Operand8
  | reg (r : Reg8)
  | indHL
  deriving DecidableEq, Repr

/-- The 16-bit operand table `rr[p]` (R124). -/
inductive Reg16
  | bc | de | hl | sp
  deriving DecidableEq, Repr

/-- The 16-bit operand table `rr2[p]` of PUSH and POP (R125). -/
inductive StackReg
  | bc | de | hl | af
  deriving DecidableEq, Repr

/-- The condition field `cc` (R126, R260). -/
inductive Cond
  | nz | z | nc | c
  deriving DecidableEq, Repr

/-- The eight two-operand operations, field `y` (R126, R186). -/
inductive AluOp
  | add | adc | sub | sbc | and | xor | or | cp
  deriving DecidableEq, Repr

/-- The eight rotates and shifts of the second table, field `y` (R126, R129). -/
inductive RotOp
  | rlc | rrc | rl | rr | sla | sra | swap | srl
  deriving DecidableEq, Repr

/-- A three-bit field: the bit number of BIT, RES and SET, or the `y` of RST (R126). -/
inductive Index8
  | i0 | i1 | i2 | i3 | i4 | i5 | i6 | i7
  deriving DecidableEq, Repr

/-- The number an index stands for. -/
def Index8.toNat : Index8 → Nat
  | .i0 => 0 | .i1 => 1 | .i2 => 2 | .i3 => 3 | .i4 => 4 | .i5 => 5 | .i6 => 6 | .i7 => 7

/-- The instructions. The comment of a constructor gives its mnemonic, its opcode and the rule of its meaning.
The instructions that carry an operand stand first, each part in the order of the opcode table: Lean compiles a
constructor with fields only at a small index. -/
inductive Instr where
  /-- `LD BC,n16`, 0x01, R171 -/
  | ldBCN16 (n16 : Word)
  /-- `LD B,n8`, 0x06, R143 -/
  | ldBN8 (n8 : Byte)
  /-- `LD (a16),SP`, 0x08, R172 -/
  | ldIndA16SP (a16 : Word)
  /-- `LD C,n8`, 0x0E, R143 -/
  | ldCN8 (n8 : Byte)
  /-- `LD DE,n16`, 0x11, R171 -/
  | ldDEN16 (n16 : Word)
  /-- `LD D,n8`, 0x16, R143 -/
  | ldDN8 (n8 : Byte)
  /-- `JR e8`, 0x18, R264 -/
  | jrE8 (e8 : Byte)
  /-- `LD E,n8`, 0x1E, R143 -/
  | ldEN8 (n8 : Byte)
  /-- `JR NZ,e8`, 0x20, R265 -/
  | jrNZE8 (e8 : Byte)
  /-- `LD HL,n16`, 0x21, R171 -/
  | ldHLN16 (n16 : Word)
  /-- `LD H,n8`, 0x26, R143 -/
  | ldHN8 (n8 : Byte)
  /-- `JR Z,e8`, 0x28, R265 -/
  | jrZE8 (e8 : Byte)
  /-- `LD L,n8`, 0x2E, R143 -/
  | ldLN8 (n8 : Byte)
  /-- `JR NC,e8`, 0x30, R265 -/
  | jrNCE8 (e8 : Byte)
  /-- `LD SP,n16`, 0x31, R171 -/
  | ldSPN16 (n16 : Word)
  /-- `LD (HL),n8`, 0x36, R148 -/
  | ldIndHLN8 (n8 : Byte)
  /-- `JR C,e8`, 0x38, R265 -/
  | jrCE8 (e8 : Byte)
  /-- `LD A,n8`, 0x3E, R143 -/
  | ldAN8 (n8 : Byte)
  /-- `JP NZ,a16`, 0xC2, R262 -/
  | jpNZA16 (a16 : Word)
  /-- `JP a16`, 0xC3, R261 -/
  | jpA16 (a16 : Word)
  /-- `CALL NZ,a16`, 0xC4, R267 -/
  | callNZA16 (a16 : Word)
  /-- `ADD A,n8`, 0xC6, R187 -/
  | addAN8 (n8 : Byte)
  /-- `JP Z,a16`, 0xCA, R262 -/
  | jpZA16 (a16 : Word)
  /-- `CALL Z,a16`, 0xCC, R267 -/
  | callZA16 (a16 : Word)
  /-- `CALL a16`, 0xCD, R266 -/
  | callA16 (a16 : Word)
  /-- `ADC A,n8`, 0xCE, R188 -/
  | adcAN8 (n8 : Byte)
  /-- `JP NC,a16`, 0xD2, R262 -/
  | jpNCA16 (a16 : Word)
  /-- `CALL NC,a16`, 0xD4, R267 -/
  | callNCA16 (a16 : Word)
  /-- `SUB n8`, 0xD6, R189 -/
  | subN8 (n8 : Byte)
  /-- `JP C,a16`, 0xDA, R262 -/
  | jpCA16 (a16 : Word)
  /-- `CALL C,a16`, 0xDC, R267 -/
  | callCA16 (a16 : Word)
  /-- `SBC A,n8`, 0xDE, R190 -/
  | sbcAN8 (n8 : Byte)
  /-- `LDH (a8),A`, 0xE0, R150 -/
  | ldhIndA8A (a8 : Byte)
  /-- `AND n8`, 0xE6, R191 -/
  | andN8 (n8 : Byte)
  /-- `ADD SP,e8`, 0xE8, R224 -/
  | addSPE8 (e8 : Byte)
  /-- `LD (a16),A`, 0xEA, R154 -/
  | ldIndA16A (a16 : Word)
  /-- `XOR n8`, 0xEE, R192 -/
  | xorN8 (n8 : Byte)
  /-- `LDH A,(a8)`, 0xF0, R151 -/
  | ldhAIndA8 (a8 : Byte)
  /-- `OR n8`, 0xF6, R193 -/
  | orN8 (n8 : Byte)
  /-- `LD HL,SP+e8`, 0xF8, R178 -/
  | ldHLSPE8 (e8 : Byte)
  /-- `LD A,(a16)`, 0xFA, R149 -/
  | ldAIndA16 (a16 : Word)
  /-- `CP n8`, 0xFE, R194 -/
  | cpN8 (n8 : Byte)
  /-- `NOP`, 0x00, R282 -/
  | nop
  /-- `LD (BC),A`, 0x02, R146 -/
  | ldIndBCA
  /-- `INC BC`, 0x03, R222 -/
  | incBC
  /-- `INC B`, 0x04, R201 -/
  | incB
  /-- `DEC B`, 0x05, R203 -/
  | decB
  /-- `RLCA`, 0x07, R231 -/
  | rlca
  /-- `ADD HL,BC`, 0x09, R221 -/
  | addHLBC
  /-- `LD A,(BC)`, 0x0A, R144 -/
  | ldAIndBC
  /-- `DEC BC`, 0x0B, R223 -/
  | decBC
  /-- `INC C`, 0x0C, R201 -/
  | incC
  /-- `DEC C`, 0x0D, R203 -/
  | decC
  /-- `RRCA`, 0x0F, R232 -/
  | rrca
  /-- `STOP`, 0x10, R284 -/
  | stop
  /-- `LD (DE),A`, 0x12, R147 -/
  | ldIndDEA
  /-- `INC DE`, 0x13, R222 -/
  | incDE
  /-- `INC D`, 0x14, R201 -/
  | incD
  /-- `DEC D`, 0x15, R203 -/
  | decD
  /-- `RLA`, 0x17, R233 -/
  | rla
  /-- `ADD HL,DE`, 0x19, R221 -/
  | addHLDE
  /-- `LD A,(DE)`, 0x1A, R145 -/
  | ldAIndDE
  /-- `DEC DE`, 0x1B, R223 -/
  | decDE
  /-- `INC E`, 0x1C, R201 -/
  | incE
  /-- `DEC E`, 0x1D, R203 -/
  | decE
  /-- `RRA`, 0x1F, R234 -/
  | rra
  /-- `LD (HL+),A`, 0x22, R155 -/
  | ldIndHLIncA
  /-- `INC HL`, 0x23, R222 -/
  | incHL
  /-- `INC H`, 0x24, R201 -/
  | incH
  /-- `DEC H`, 0x25, R203 -/
  | decH
  /-- `DAA`, 0x27, R205 -/
  | daa
  /-- `ADD HL,HL`, 0x29, R221 -/
  | addHLHL
  /-- `LD A,(HL+)`, 0x2A, R156 -/
  | ldAIndHLInc
  /-- `DEC HL`, 0x2B, R223 -/
  | decHL
  /-- `INC L`, 0x2C, R201 -/
  | incL
  /-- `DEC L`, 0x2D, R203 -/
  | decL
  /-- `CPL`, 0x2F, R206 -/
  | cpl
  /-- `LD (HL-),A`, 0x32, R157 -/
  | ldIndHLDecA
  /-- `INC SP`, 0x33, R222 -/
  | incSP
  /-- `INC (HL)`, 0x34, R202 -/
  | incIndHL
  /-- `DEC (HL)`, 0x35, R204 -/
  | decIndHL
  /-- `SCF`, 0x37, R207 -/
  | scf
  /-- `ADD HL,SP`, 0x39, R221 -/
  | addHLSP
  /-- `LD A,(HL-)`, 0x3A, R158 -/
  | ldAIndHLDec
  /-- `DEC SP`, 0x3B, R223 -/
  | decSP
  /-- `INC A`, 0x3C, R201 -/
  | incA
  /-- `DEC A`, 0x3D, R203 -/
  | decA
  /-- `CCF`, 0x3F, R208 -/
  | ccf
  /-- `LD B,B`, 0x40, R140 -/
  | ldBB
  /-- `LD B,C`, 0x41, R140 -/
  | ldBC
  /-- `LD B,D`, 0x42, R140 -/
  | ldBD
  /-- `LD B,E`, 0x43, R140 -/
  | ldBE
  /-- `LD B,H`, 0x44, R140 -/
  | ldBH
  /-- `LD B,L`, 0x45, R140 -/
  | ldBL
  /-- `LD B,(HL)`, 0x46, R141 -/
  | ldBIndHL
  /-- `LD B,A`, 0x47, R140 -/
  | ldBA
  /-- `LD C,B`, 0x48, R140 -/
  | ldCB
  /-- `LD C,C`, 0x49, R140 -/
  | ldCC
  /-- `LD C,D`, 0x4A, R140 -/
  | ldCD
  /-- `LD C,E`, 0x4B, R140 -/
  | ldCE
  /-- `LD C,H`, 0x4C, R140 -/
  | ldCH
  /-- `LD C,L`, 0x4D, R140 -/
  | ldCL
  /-- `LD C,(HL)`, 0x4E, R141 -/
  | ldCIndHL
  /-- `LD C,A`, 0x4F, R140 -/
  | ldCA
  /-- `LD D,B`, 0x50, R140 -/
  | ldDB
  /-- `LD D,C`, 0x51, R140 -/
  | ldDC
  /-- `LD D,D`, 0x52, R140 -/
  | ldDD
  /-- `LD D,E`, 0x53, R140 -/
  | ldDE
  /-- `LD D,H`, 0x54, R140 -/
  | ldDH
  /-- `LD D,L`, 0x55, R140 -/
  | ldDL
  /-- `LD D,(HL)`, 0x56, R141 -/
  | ldDIndHL
  /-- `LD D,A`, 0x57, R140 -/
  | ldDA
  /-- `LD E,B`, 0x58, R140 -/
  | ldEB
  /-- `LD E,C`, 0x59, R140 -/
  | ldEC
  /-- `LD E,D`, 0x5A, R140 -/
  | ldED
  /-- `LD E,E`, 0x5B, R140 -/
  | ldEE
  /-- `LD E,H`, 0x5C, R140 -/
  | ldEH
  /-- `LD E,L`, 0x5D, R140 -/
  | ldEL
  /-- `LD E,(HL)`, 0x5E, R141 -/
  | ldEIndHL
  /-- `LD E,A`, 0x5F, R140 -/
  | ldEA
  /-- `LD H,B`, 0x60, R140 -/
  | ldHB
  /-- `LD H,C`, 0x61, R140 -/
  | ldHC
  /-- `LD H,D`, 0x62, R140 -/
  | ldHD
  /-- `LD H,E`, 0x63, R140 -/
  | ldHE
  /-- `LD H,H`, 0x64, R140 -/
  | ldHH
  /-- `LD H,L`, 0x65, R140 -/
  | ldHL
  /-- `LD H,(HL)`, 0x66, R141 -/
  | ldHIndHL
  /-- `LD H,A`, 0x67, R140 -/
  | ldHA
  /-- `LD L,B`, 0x68, R140 -/
  | ldLB
  /-- `LD L,C`, 0x69, R140 -/
  | ldLC
  /-- `LD L,D`, 0x6A, R140 -/
  | ldLD
  /-- `LD L,E`, 0x6B, R140 -/
  | ldLE
  /-- `LD L,H`, 0x6C, R140 -/
  | ldLH
  /-- `LD L,L`, 0x6D, R140 -/
  | ldLL
  /-- `LD L,(HL)`, 0x6E, R141 -/
  | ldLIndHL
  /-- `LD L,A`, 0x6F, R140 -/
  | ldLA
  /-- `LD (HL),B`, 0x70, R142 -/
  | ldIndHLB
  /-- `LD (HL),C`, 0x71, R142 -/
  | ldIndHLC
  /-- `LD (HL),D`, 0x72, R142 -/
  | ldIndHLD
  /-- `LD (HL),E`, 0x73, R142 -/
  | ldIndHLE
  /-- `LD (HL),H`, 0x74, R142 -/
  | ldIndHLH
  /-- `LD (HL),L`, 0x75, R142 -/
  | ldIndHLL
  /-- `HALT`, 0x76, R283 -/
  | halt
  /-- `LD (HL),A`, 0x77, R142 -/
  | ldIndHLA
  /-- `LD A,B`, 0x78, R140 -/
  | ldAB
  /-- `LD A,C`, 0x79, R140 -/
  | ldAC
  /-- `LD A,D`, 0x7A, R140 -/
  | ldAD
  /-- `LD A,E`, 0x7B, R140 -/
  | ldAE
  /-- `LD A,H`, 0x7C, R140 -/
  | ldAH
  /-- `LD A,L`, 0x7D, R140 -/
  | ldAL
  /-- `LD A,(HL)`, 0x7E, R141 -/
  | ldAIndHL
  /-- `LD A,A`, 0x7F, R140 -/
  | ldAA
  /-- `ADD A,B`, 0x80, R187 -/
  | addAB
  /-- `ADD A,C`, 0x81, R187 -/
  | addAC
  /-- `ADD A,D`, 0x82, R187 -/
  | addAD
  /-- `ADD A,E`, 0x83, R187 -/
  | addAE
  /-- `ADD A,H`, 0x84, R187 -/
  | addAH
  /-- `ADD A,L`, 0x85, R187 -/
  | addAL
  /-- `ADD A,(HL)`, 0x86, R187 -/
  | addAIndHL
  /-- `ADD A,A`, 0x87, R187 -/
  | addAA
  /-- `ADC A,B`, 0x88, R188 -/
  | adcAB
  /-- `ADC A,C`, 0x89, R188 -/
  | adcAC
  /-- `ADC A,D`, 0x8A, R188 -/
  | adcAD
  /-- `ADC A,E`, 0x8B, R188 -/
  | adcAE
  /-- `ADC A,H`, 0x8C, R188 -/
  | adcAH
  /-- `ADC A,L`, 0x8D, R188 -/
  | adcAL
  /-- `ADC A,(HL)`, 0x8E, R188 -/
  | adcAIndHL
  /-- `ADC A,A`, 0x8F, R188 -/
  | adcAA
  /-- `SUB B`, 0x90, R189 -/
  | subB
  /-- `SUB C`, 0x91, R189 -/
  | subC
  /-- `SUB D`, 0x92, R189 -/
  | subD
  /-- `SUB E`, 0x93, R189 -/
  | subE
  /-- `SUB H`, 0x94, R189 -/
  | subH
  /-- `SUB L`, 0x95, R189 -/
  | subL
  /-- `SUB (HL)`, 0x96, R189 -/
  | subIndHL
  /-- `SUB A`, 0x97, R189 -/
  | subA
  /-- `SBC A,B`, 0x98, R190 -/
  | sbcAB
  /-- `SBC A,C`, 0x99, R190 -/
  | sbcAC
  /-- `SBC A,D`, 0x9A, R190 -/
  | sbcAD
  /-- `SBC A,E`, 0x9B, R190 -/
  | sbcAE
  /-- `SBC A,H`, 0x9C, R190 -/
  | sbcAH
  /-- `SBC A,L`, 0x9D, R190 -/
  | sbcAL
  /-- `SBC A,(HL)`, 0x9E, R190 -/
  | sbcAIndHL
  /-- `SBC A,A`, 0x9F, R190 -/
  | sbcAA
  /-- `AND B`, 0xA0, R191 -/
  | andB
  /-- `AND C`, 0xA1, R191 -/
  | andC
  /-- `AND D`, 0xA2, R191 -/
  | andD
  /-- `AND E`, 0xA3, R191 -/
  | andE
  /-- `AND H`, 0xA4, R191 -/
  | andH
  /-- `AND L`, 0xA5, R191 -/
  | andL
  /-- `AND (HL)`, 0xA6, R191 -/
  | andIndHL
  /-- `AND A`, 0xA7, R191 -/
  | andA
  /-- `XOR B`, 0xA8, R192 -/
  | xorB
  /-- `XOR C`, 0xA9, R192 -/
  | xorC
  /-- `XOR D`, 0xAA, R192 -/
  | xorD
  /-- `XOR E`, 0xAB, R192 -/
  | xorE
  /-- `XOR H`, 0xAC, R192 -/
  | xorH
  /-- `XOR L`, 0xAD, R192 -/
  | xorL
  /-- `XOR (HL)`, 0xAE, R192 -/
  | xorIndHL
  /-- `XOR A`, 0xAF, R192 -/
  | xorA
  /-- `OR B`, 0xB0, R193 -/
  | orB
  /-- `OR C`, 0xB1, R193 -/
  | orC
  /-- `OR D`, 0xB2, R193 -/
  | orD
  /-- `OR E`, 0xB3, R193 -/
  | orE
  /-- `OR H`, 0xB4, R193 -/
  | orH
  /-- `OR L`, 0xB5, R193 -/
  | orL
  /-- `OR (HL)`, 0xB6, R193 -/
  | orIndHL
  /-- `OR A`, 0xB7, R193 -/
  | orA
  /-- `CP B`, 0xB8, R194 -/
  | cpB
  /-- `CP C`, 0xB9, R194 -/
  | cpC
  /-- `CP D`, 0xBA, R194 -/
  | cpD
  /-- `CP E`, 0xBB, R194 -/
  | cpE
  /-- `CP H`, 0xBC, R194 -/
  | cpH
  /-- `CP L`, 0xBD, R194 -/
  | cpL
  /-- `CP (HL)`, 0xBE, R194 -/
  | cpIndHL
  /-- `CP A`, 0xBF, R194 -/
  | cpA
  /-- `RET NZ`, 0xC0, R269 -/
  | retNZ
  /-- `POP BC`, 0xC1, R176 -/
  | popBC
  /-- `PUSH BC`, 0xC5, R174 -/
  | pushBC
  /-- `RST 0x00`, 0xC7, R273 -/
  | rst00
  /-- `RET Z`, 0xC8, R269 -/
  | retZ
  /-- `RET`, 0xC9, R268 -/
  | ret
  /-- `PREFIX CB`, 0xCB, R287 -/
  | prefixCB
  /-- `RST 0x08`, 0xCF, R273 -/
  | rst08
  /-- `RET NC`, 0xD0, R269 -/
  | retNC
  /-- `POP DE`, 0xD1, R176 -/
  | popDE
  /-- `ILLEGAL_D3`, 0xD3, R288 -/
  | illegalD3
  /-- `PUSH DE`, 0xD5, R174 -/
  | pushDE
  /-- `RST 0x10`, 0xD7, R273 -/
  | rst10
  /-- `RET C`, 0xD8, R269 -/
  | retC
  /-- `RETI`, 0xD9, R270 -/
  | reti
  /-- `ILLEGAL_DB`, 0xDB, R288 -/
  | illegalDB
  /-- `ILLEGAL_DD`, 0xDD, R288 -/
  | illegalDD
  /-- `RST 0x18`, 0xDF, R273 -/
  | rst18
  /-- `POP HL`, 0xE1, R176 -/
  | popHL
  /-- `LD (C),A`, 0xE2, R152 -/
  | ldIndCA
  /-- `ILLEGAL_E3`, 0xE3, R288 -/
  | illegalE3
  /-- `ILLEGAL_E4`, 0xE4, R288 -/
  | illegalE4
  /-- `PUSH HL`, 0xE5, R174 -/
  | pushHL
  /-- `RST 0x20`, 0xE7, R273 -/
  | rst20
  /-- `JP HL`, 0xE9, R263 -/
  | jpHL
  /-- `ILLEGAL_EB`, 0xEB, R288 -/
  | illegalEB
  /-- `ILLEGAL_EC`, 0xEC, R288 -/
  | illegalEC
  /-- `ILLEGAL_ED`, 0xED, R288 -/
  | illegalED
  /-- `RST 0x28`, 0xEF, R273 -/
  | rst28
  /-- `POP AF`, 0xF1, R177 -/
  | popAF
  /-- `LD A,(C)`, 0xF2, R153 -/
  | ldAIndC
  /-- `DI`, 0xF3, R285 -/
  | di
  /-- `ILLEGAL_F4`, 0xF4, R288 -/
  | illegalF4
  /-- `PUSH AF`, 0xF5, R175 -/
  | pushAF
  /-- `RST 0x30`, 0xF7, R273 -/
  | rst30
  /-- `LD SP,HL`, 0xF9, R173 -/
  | ldSPHL
  /-- `EI`, 0xFB, R286 -/
  | ei
  /-- `ILLEGAL_FC`, 0xFC, R288 -/
  | illegalFC
  /-- `ILLEGAL_FD`, 0xFD, R288 -/
  | illegalFD
  /-- `RST 0x38`, 0xFF, R273 -/
  | rst38
  /-- `RLC B`, 0xCB 0x00, R235 -/
  | rlcB
  /-- `RLC C`, 0xCB 0x01, R235 -/
  | rlcC
  /-- `RLC D`, 0xCB 0x02, R235 -/
  | rlcD
  /-- `RLC E`, 0xCB 0x03, R235 -/
  | rlcE
  /-- `RLC H`, 0xCB 0x04, R235 -/
  | rlcH
  /-- `RLC L`, 0xCB 0x05, R235 -/
  | rlcL
  /-- `RLC (HL)`, 0xCB 0x06, R235 -/
  | rlcIndHL
  /-- `RLC A`, 0xCB 0x07, R235 -/
  | rlcA
  /-- `RRC B`, 0xCB 0x08, R236 -/
  | rrcB
  /-- `RRC C`, 0xCB 0x09, R236 -/
  | rrcC
  /-- `RRC D`, 0xCB 0x0A, R236 -/
  | rrcD
  /-- `RRC E`, 0xCB 0x0B, R236 -/
  | rrcE
  /-- `RRC H`, 0xCB 0x0C, R236 -/
  | rrcH
  /-- `RRC L`, 0xCB 0x0D, R236 -/
  | rrcL
  /-- `RRC (HL)`, 0xCB 0x0E, R236 -/
  | rrcIndHL
  /-- `RRC A`, 0xCB 0x0F, R236 -/
  | rrcA
  /-- `RL B`, 0xCB 0x10, R237 -/
  | rlB
  /-- `RL C`, 0xCB 0x11, R237 -/
  | rlC
  /-- `RL D`, 0xCB 0x12, R237 -/
  | rlD
  /-- `RL E`, 0xCB 0x13, R237 -/
  | rlE
  /-- `RL H`, 0xCB 0x14, R237 -/
  | rlH
  /-- `RL L`, 0xCB 0x15, R237 -/
  | rlL
  /-- `RL (HL)`, 0xCB 0x16, R237 -/
  | rlIndHL
  /-- `RL A`, 0xCB 0x17, R237 -/
  | rlA
  /-- `RR B`, 0xCB 0x18, R238 -/
  | rrB
  /-- `RR C`, 0xCB 0x19, R238 -/
  | rrC
  /-- `RR D`, 0xCB 0x1A, R238 -/
  | rrD
  /-- `RR E`, 0xCB 0x1B, R238 -/
  | rrE
  /-- `RR H`, 0xCB 0x1C, R238 -/
  | rrH
  /-- `RR L`, 0xCB 0x1D, R238 -/
  | rrL
  /-- `RR (HL)`, 0xCB 0x1E, R238 -/
  | rrIndHL
  /-- `RR A`, 0xCB 0x1F, R238 -/
  | rrA
  /-- `SLA B`, 0xCB 0x20, R239 -/
  | slaB
  /-- `SLA C`, 0xCB 0x21, R239 -/
  | slaC
  /-- `SLA D`, 0xCB 0x22, R239 -/
  | slaD
  /-- `SLA E`, 0xCB 0x23, R239 -/
  | slaE
  /-- `SLA H`, 0xCB 0x24, R239 -/
  | slaH
  /-- `SLA L`, 0xCB 0x25, R239 -/
  | slaL
  /-- `SLA (HL)`, 0xCB 0x26, R239 -/
  | slaIndHL
  /-- `SLA A`, 0xCB 0x27, R239 -/
  | slaA
  /-- `SRA B`, 0xCB 0x28, R240 -/
  | sraB
  /-- `SRA C`, 0xCB 0x29, R240 -/
  | sraC
  /-- `SRA D`, 0xCB 0x2A, R240 -/
  | sraD
  /-- `SRA E`, 0xCB 0x2B, R240 -/
  | sraE
  /-- `SRA H`, 0xCB 0x2C, R240 -/
  | sraH
  /-- `SRA L`, 0xCB 0x2D, R240 -/
  | sraL
  /-- `SRA (HL)`, 0xCB 0x2E, R240 -/
  | sraIndHL
  /-- `SRA A`, 0xCB 0x2F, R240 -/
  | sraA
  /-- `SWAP B`, 0xCB 0x30, R241 -/
  | swapB
  /-- `SWAP C`, 0xCB 0x31, R241 -/
  | swapC
  /-- `SWAP D`, 0xCB 0x32, R241 -/
  | swapD
  /-- `SWAP E`, 0xCB 0x33, R241 -/
  | swapE
  /-- `SWAP H`, 0xCB 0x34, R241 -/
  | swapH
  /-- `SWAP L`, 0xCB 0x35, R241 -/
  | swapL
  /-- `SWAP (HL)`, 0xCB 0x36, R241 -/
  | swapIndHL
  /-- `SWAP A`, 0xCB 0x37, R241 -/
  | swapA
  /-- `SRL B`, 0xCB 0x38, R242 -/
  | srlB
  /-- `SRL C`, 0xCB 0x39, R242 -/
  | srlC
  /-- `SRL D`, 0xCB 0x3A, R242 -/
  | srlD
  /-- `SRL E`, 0xCB 0x3B, R242 -/
  | srlE
  /-- `SRL H`, 0xCB 0x3C, R242 -/
  | srlH
  /-- `SRL L`, 0xCB 0x3D, R242 -/
  | srlL
  /-- `SRL (HL)`, 0xCB 0x3E, R242 -/
  | srlIndHL
  /-- `SRL A`, 0xCB 0x3F, R242 -/
  | srlA
  /-- `BIT 0,B`, 0xCB 0x40, R243 -/
  | bit0B
  /-- `BIT 0,C`, 0xCB 0x41, R243 -/
  | bit0C
  /-- `BIT 0,D`, 0xCB 0x42, R243 -/
  | bit0D
  /-- `BIT 0,E`, 0xCB 0x43, R243 -/
  | bit0E
  /-- `BIT 0,H`, 0xCB 0x44, R243 -/
  | bit0H
  /-- `BIT 0,L`, 0xCB 0x45, R243 -/
  | bit0L
  /-- `BIT 0,(HL)`, 0xCB 0x46, R243 -/
  | bit0IndHL
  /-- `BIT 0,A`, 0xCB 0x47, R243 -/
  | bit0A
  /-- `BIT 1,B`, 0xCB 0x48, R243 -/
  | bit1B
  /-- `BIT 1,C`, 0xCB 0x49, R243 -/
  | bit1C
  /-- `BIT 1,D`, 0xCB 0x4A, R243 -/
  | bit1D
  /-- `BIT 1,E`, 0xCB 0x4B, R243 -/
  | bit1E
  /-- `BIT 1,H`, 0xCB 0x4C, R243 -/
  | bit1H
  /-- `BIT 1,L`, 0xCB 0x4D, R243 -/
  | bit1L
  /-- `BIT 1,(HL)`, 0xCB 0x4E, R243 -/
  | bit1IndHL
  /-- `BIT 1,A`, 0xCB 0x4F, R243 -/
  | bit1A
  /-- `BIT 2,B`, 0xCB 0x50, R243 -/
  | bit2B
  /-- `BIT 2,C`, 0xCB 0x51, R243 -/
  | bit2C
  /-- `BIT 2,D`, 0xCB 0x52, R243 -/
  | bit2D
  /-- `BIT 2,E`, 0xCB 0x53, R243 -/
  | bit2E
  /-- `BIT 2,H`, 0xCB 0x54, R243 -/
  | bit2H
  /-- `BIT 2,L`, 0xCB 0x55, R243 -/
  | bit2L
  /-- `BIT 2,(HL)`, 0xCB 0x56, R243 -/
  | bit2IndHL
  /-- `BIT 2,A`, 0xCB 0x57, R243 -/
  | bit2A
  /-- `BIT 3,B`, 0xCB 0x58, R243 -/
  | bit3B
  /-- `BIT 3,C`, 0xCB 0x59, R243 -/
  | bit3C
  /-- `BIT 3,D`, 0xCB 0x5A, R243 -/
  | bit3D
  /-- `BIT 3,E`, 0xCB 0x5B, R243 -/
  | bit3E
  /-- `BIT 3,H`, 0xCB 0x5C, R243 -/
  | bit3H
  /-- `BIT 3,L`, 0xCB 0x5D, R243 -/
  | bit3L
  /-- `BIT 3,(HL)`, 0xCB 0x5E, R243 -/
  | bit3IndHL
  /-- `BIT 3,A`, 0xCB 0x5F, R243 -/
  | bit3A
  /-- `BIT 4,B`, 0xCB 0x60, R243 -/
  | bit4B
  /-- `BIT 4,C`, 0xCB 0x61, R243 -/
  | bit4C
  /-- `BIT 4,D`, 0xCB 0x62, R243 -/
  | bit4D
  /-- `BIT 4,E`, 0xCB 0x63, R243 -/
  | bit4E
  /-- `BIT 4,H`, 0xCB 0x64, R243 -/
  | bit4H
  /-- `BIT 4,L`, 0xCB 0x65, R243 -/
  | bit4L
  /-- `BIT 4,(HL)`, 0xCB 0x66, R243 -/
  | bit4IndHL
  /-- `BIT 4,A`, 0xCB 0x67, R243 -/
  | bit4A
  /-- `BIT 5,B`, 0xCB 0x68, R243 -/
  | bit5B
  /-- `BIT 5,C`, 0xCB 0x69, R243 -/
  | bit5C
  /-- `BIT 5,D`, 0xCB 0x6A, R243 -/
  | bit5D
  /-- `BIT 5,E`, 0xCB 0x6B, R243 -/
  | bit5E
  /-- `BIT 5,H`, 0xCB 0x6C, R243 -/
  | bit5H
  /-- `BIT 5,L`, 0xCB 0x6D, R243 -/
  | bit5L
  /-- `BIT 5,(HL)`, 0xCB 0x6E, R243 -/
  | bit5IndHL
  /-- `BIT 5,A`, 0xCB 0x6F, R243 -/
  | bit5A
  /-- `BIT 6,B`, 0xCB 0x70, R243 -/
  | bit6B
  /-- `BIT 6,C`, 0xCB 0x71, R243 -/
  | bit6C
  /-- `BIT 6,D`, 0xCB 0x72, R243 -/
  | bit6D
  /-- `BIT 6,E`, 0xCB 0x73, R243 -/
  | bit6E
  /-- `BIT 6,H`, 0xCB 0x74, R243 -/
  | bit6H
  /-- `BIT 6,L`, 0xCB 0x75, R243 -/
  | bit6L
  /-- `BIT 6,(HL)`, 0xCB 0x76, R243 -/
  | bit6IndHL
  /-- `BIT 6,A`, 0xCB 0x77, R243 -/
  | bit6A
  /-- `BIT 7,B`, 0xCB 0x78, R243 -/
  | bit7B
  /-- `BIT 7,C`, 0xCB 0x79, R243 -/
  | bit7C
  /-- `BIT 7,D`, 0xCB 0x7A, R243 -/
  | bit7D
  /-- `BIT 7,E`, 0xCB 0x7B, R243 -/
  | bit7E
  /-- `BIT 7,H`, 0xCB 0x7C, R243 -/
  | bit7H
  /-- `BIT 7,L`, 0xCB 0x7D, R243 -/
  | bit7L
  /-- `BIT 7,(HL)`, 0xCB 0x7E, R243 -/
  | bit7IndHL
  /-- `BIT 7,A`, 0xCB 0x7F, R243 -/
  | bit7A
  /-- `RES 0,B`, 0xCB 0x80, R244 -/
  | res0B
  /-- `RES 0,C`, 0xCB 0x81, R244 -/
  | res0C
  /-- `RES 0,D`, 0xCB 0x82, R244 -/
  | res0D
  /-- `RES 0,E`, 0xCB 0x83, R244 -/
  | res0E
  /-- `RES 0,H`, 0xCB 0x84, R244 -/
  | res0H
  /-- `RES 0,L`, 0xCB 0x85, R244 -/
  | res0L
  /-- `RES 0,(HL)`, 0xCB 0x86, R244 -/
  | res0IndHL
  /-- `RES 0,A`, 0xCB 0x87, R244 -/
  | res0A
  /-- `RES 1,B`, 0xCB 0x88, R244 -/
  | res1B
  /-- `RES 1,C`, 0xCB 0x89, R244 -/
  | res1C
  /-- `RES 1,D`, 0xCB 0x8A, R244 -/
  | res1D
  /-- `RES 1,E`, 0xCB 0x8B, R244 -/
  | res1E
  /-- `RES 1,H`, 0xCB 0x8C, R244 -/
  | res1H
  /-- `RES 1,L`, 0xCB 0x8D, R244 -/
  | res1L
  /-- `RES 1,(HL)`, 0xCB 0x8E, R244 -/
  | res1IndHL
  /-- `RES 1,A`, 0xCB 0x8F, R244 -/
  | res1A
  /-- `RES 2,B`, 0xCB 0x90, R244 -/
  | res2B
  /-- `RES 2,C`, 0xCB 0x91, R244 -/
  | res2C
  /-- `RES 2,D`, 0xCB 0x92, R244 -/
  | res2D
  /-- `RES 2,E`, 0xCB 0x93, R244 -/
  | res2E
  /-- `RES 2,H`, 0xCB 0x94, R244 -/
  | res2H
  /-- `RES 2,L`, 0xCB 0x95, R244 -/
  | res2L
  /-- `RES 2,(HL)`, 0xCB 0x96, R244 -/
  | res2IndHL
  /-- `RES 2,A`, 0xCB 0x97, R244 -/
  | res2A
  /-- `RES 3,B`, 0xCB 0x98, R244 -/
  | res3B
  /-- `RES 3,C`, 0xCB 0x99, R244 -/
  | res3C
  /-- `RES 3,D`, 0xCB 0x9A, R244 -/
  | res3D
  /-- `RES 3,E`, 0xCB 0x9B, R244 -/
  | res3E
  /-- `RES 3,H`, 0xCB 0x9C, R244 -/
  | res3H
  /-- `RES 3,L`, 0xCB 0x9D, R244 -/
  | res3L
  /-- `RES 3,(HL)`, 0xCB 0x9E, R244 -/
  | res3IndHL
  /-- `RES 3,A`, 0xCB 0x9F, R244 -/
  | res3A
  /-- `RES 4,B`, 0xCB 0xA0, R244 -/
  | res4B
  /-- `RES 4,C`, 0xCB 0xA1, R244 -/
  | res4C
  /-- `RES 4,D`, 0xCB 0xA2, R244 -/
  | res4D
  /-- `RES 4,E`, 0xCB 0xA3, R244 -/
  | res4E
  /-- `RES 4,H`, 0xCB 0xA4, R244 -/
  | res4H
  /-- `RES 4,L`, 0xCB 0xA5, R244 -/
  | res4L
  /-- `RES 4,(HL)`, 0xCB 0xA6, R244 -/
  | res4IndHL
  /-- `RES 4,A`, 0xCB 0xA7, R244 -/
  | res4A
  /-- `RES 5,B`, 0xCB 0xA8, R244 -/
  | res5B
  /-- `RES 5,C`, 0xCB 0xA9, R244 -/
  | res5C
  /-- `RES 5,D`, 0xCB 0xAA, R244 -/
  | res5D
  /-- `RES 5,E`, 0xCB 0xAB, R244 -/
  | res5E
  /-- `RES 5,H`, 0xCB 0xAC, R244 -/
  | res5H
  /-- `RES 5,L`, 0xCB 0xAD, R244 -/
  | res5L
  /-- `RES 5,(HL)`, 0xCB 0xAE, R244 -/
  | res5IndHL
  /-- `RES 5,A`, 0xCB 0xAF, R244 -/
  | res5A
  /-- `RES 6,B`, 0xCB 0xB0, R244 -/
  | res6B
  /-- `RES 6,C`, 0xCB 0xB1, R244 -/
  | res6C
  /-- `RES 6,D`, 0xCB 0xB2, R244 -/
  | res6D
  /-- `RES 6,E`, 0xCB 0xB3, R244 -/
  | res6E
  /-- `RES 6,H`, 0xCB 0xB4, R244 -/
  | res6H
  /-- `RES 6,L`, 0xCB 0xB5, R244 -/
  | res6L
  /-- `RES 6,(HL)`, 0xCB 0xB6, R244 -/
  | res6IndHL
  /-- `RES 6,A`, 0xCB 0xB7, R244 -/
  | res6A
  /-- `RES 7,B`, 0xCB 0xB8, R244 -/
  | res7B
  /-- `RES 7,C`, 0xCB 0xB9, R244 -/
  | res7C
  /-- `RES 7,D`, 0xCB 0xBA, R244 -/
  | res7D
  /-- `RES 7,E`, 0xCB 0xBB, R244 -/
  | res7E
  /-- `RES 7,H`, 0xCB 0xBC, R244 -/
  | res7H
  /-- `RES 7,L`, 0xCB 0xBD, R244 -/
  | res7L
  /-- `RES 7,(HL)`, 0xCB 0xBE, R244 -/
  | res7IndHL
  /-- `RES 7,A`, 0xCB 0xBF, R244 -/
  | res7A
  /-- `SET 0,B`, 0xCB 0xC0, R245 -/
  | set0B
  /-- `SET 0,C`, 0xCB 0xC1, R245 -/
  | set0C
  /-- `SET 0,D`, 0xCB 0xC2, R245 -/
  | set0D
  /-- `SET 0,E`, 0xCB 0xC3, R245 -/
  | set0E
  /-- `SET 0,H`, 0xCB 0xC4, R245 -/
  | set0H
  /-- `SET 0,L`, 0xCB 0xC5, R245 -/
  | set0L
  /-- `SET 0,(HL)`, 0xCB 0xC6, R245 -/
  | set0IndHL
  /-- `SET 0,A`, 0xCB 0xC7, R245 -/
  | set0A
  /-- `SET 1,B`, 0xCB 0xC8, R245 -/
  | set1B
  /-- `SET 1,C`, 0xCB 0xC9, R245 -/
  | set1C
  /-- `SET 1,D`, 0xCB 0xCA, R245 -/
  | set1D
  /-- `SET 1,E`, 0xCB 0xCB, R245 -/
  | set1E
  /-- `SET 1,H`, 0xCB 0xCC, R245 -/
  | set1H
  /-- `SET 1,L`, 0xCB 0xCD, R245 -/
  | set1L
  /-- `SET 1,(HL)`, 0xCB 0xCE, R245 -/
  | set1IndHL
  /-- `SET 1,A`, 0xCB 0xCF, R245 -/
  | set1A
  /-- `SET 2,B`, 0xCB 0xD0, R245 -/
  | set2B
  /-- `SET 2,C`, 0xCB 0xD1, R245 -/
  | set2C
  /-- `SET 2,D`, 0xCB 0xD2, R245 -/
  | set2D
  /-- `SET 2,E`, 0xCB 0xD3, R245 -/
  | set2E
  /-- `SET 2,H`, 0xCB 0xD4, R245 -/
  | set2H
  /-- `SET 2,L`, 0xCB 0xD5, R245 -/
  | set2L
  /-- `SET 2,(HL)`, 0xCB 0xD6, R245 -/
  | set2IndHL
  /-- `SET 2,A`, 0xCB 0xD7, R245 -/
  | set2A
  /-- `SET 3,B`, 0xCB 0xD8, R245 -/
  | set3B
  /-- `SET 3,C`, 0xCB 0xD9, R245 -/
  | set3C
  /-- `SET 3,D`, 0xCB 0xDA, R245 -/
  | set3D
  /-- `SET 3,E`, 0xCB 0xDB, R245 -/
  | set3E
  /-- `SET 3,H`, 0xCB 0xDC, R245 -/
  | set3H
  /-- `SET 3,L`, 0xCB 0xDD, R245 -/
  | set3L
  /-- `SET 3,(HL)`, 0xCB 0xDE, R245 -/
  | set3IndHL
  /-- `SET 3,A`, 0xCB 0xDF, R245 -/
  | set3A
  /-- `SET 4,B`, 0xCB 0xE0, R245 -/
  | set4B
  /-- `SET 4,C`, 0xCB 0xE1, R245 -/
  | set4C
  /-- `SET 4,D`, 0xCB 0xE2, R245 -/
  | set4D
  /-- `SET 4,E`, 0xCB 0xE3, R245 -/
  | set4E
  /-- `SET 4,H`, 0xCB 0xE4, R245 -/
  | set4H
  /-- `SET 4,L`, 0xCB 0xE5, R245 -/
  | set4L
  /-- `SET 4,(HL)`, 0xCB 0xE6, R245 -/
  | set4IndHL
  /-- `SET 4,A`, 0xCB 0xE7, R245 -/
  | set4A
  /-- `SET 5,B`, 0xCB 0xE8, R245 -/
  | set5B
  /-- `SET 5,C`, 0xCB 0xE9, R245 -/
  | set5C
  /-- `SET 5,D`, 0xCB 0xEA, R245 -/
  | set5D
  /-- `SET 5,E`, 0xCB 0xEB, R245 -/
  | set5E
  /-- `SET 5,H`, 0xCB 0xEC, R245 -/
  | set5H
  /-- `SET 5,L`, 0xCB 0xED, R245 -/
  | set5L
  /-- `SET 5,(HL)`, 0xCB 0xEE, R245 -/
  | set5IndHL
  /-- `SET 5,A`, 0xCB 0xEF, R245 -/
  | set5A
  /-- `SET 6,B`, 0xCB 0xF0, R245 -/
  | set6B
  /-- `SET 6,C`, 0xCB 0xF1, R245 -/
  | set6C
  /-- `SET 6,D`, 0xCB 0xF2, R245 -/
  | set6D
  /-- `SET 6,E`, 0xCB 0xF3, R245 -/
  | set6E
  /-- `SET 6,H`, 0xCB 0xF4, R245 -/
  | set6H
  /-- `SET 6,L`, 0xCB 0xF5, R245 -/
  | set6L
  /-- `SET 6,(HL)`, 0xCB 0xF6, R245 -/
  | set6IndHL
  /-- `SET 6,A`, 0xCB 0xF7, R245 -/
  | set6A
  /-- `SET 7,B`, 0xCB 0xF8, R245 -/
  | set7B
  /-- `SET 7,C`, 0xCB 0xF9, R245 -/
  | set7C
  /-- `SET 7,D`, 0xCB 0xFA, R245 -/
  | set7D
  /-- `SET 7,E`, 0xCB 0xFB, R245 -/
  | set7E
  /-- `SET 7,H`, 0xCB 0xFC, R245 -/
  | set7H
  /-- `SET 7,L`, 0xCB 0xFD, R245 -/
  | set7L
  /-- `SET 7,(HL)`, 0xCB 0xFE, R245 -/
  | set7IndHL
  /-- `SET 7,A`, 0xCB 0xFF, R245 -/
  | set7A
  deriving DecidableEq, Repr

namespace Instr

/-- `LD r,r'`, both registers (R140). -/
def load : Reg8 → Reg8 → Instr
  | .b, .b => .ldBB | .b, .c => .ldBC | .b, .d => .ldBD | .b, .e => .ldBE | .b, .h => .ldBH | .b, .l => .ldBL | .b, .a => .ldBA
  | .c, .b => .ldCB | .c, .c => .ldCC | .c, .d => .ldCD | .c, .e => .ldCE | .c, .h => .ldCH | .c, .l => .ldCL | .c, .a => .ldCA
  | .d, .b => .ldDB | .d, .c => .ldDC | .d, .d => .ldDD | .d, .e => .ldDE | .d, .h => .ldDH | .d, .l => .ldDL | .d, .a => .ldDA
  | .e, .b => .ldEB | .e, .c => .ldEC | .e, .d => .ldED | .e, .e => .ldEE | .e, .h => .ldEH | .e, .l => .ldEL | .e, .a => .ldEA
  | .h, .b => .ldHB | .h, .c => .ldHC | .h, .d => .ldHD | .h, .e => .ldHE | .h, .h => .ldHH | .h, .l => .ldHL | .h, .a => .ldHA
  | .l, .b => .ldLB | .l, .c => .ldLC | .l, .d => .ldLD | .l, .e => .ldLE | .l, .h => .ldLH | .l, .l => .ldLL | .l, .a => .ldLA
  | .a, .b => .ldAB | .a, .c => .ldAC | .a, .d => .ldAD | .a, .e => .ldAE | .a, .h => .ldAH | .a, .l => .ldAL | .a, .a => .ldAA

/-- `LD r,(HL)` (R141). -/
def loadIndHL : Reg8 → Instr
  | .b => .ldBIndHL | .c => .ldCIndHL | .d => .ldDIndHL | .e => .ldEIndHL
  | .h => .ldHIndHL | .l => .ldLIndHL | .a => .ldAIndHL

/-- `LD (HL),r` (R142). -/
def storeIndHL : Reg8 → Instr
  | .b => .ldIndHLB | .c => .ldIndHLC | .d => .ldIndHLD | .e => .ldIndHLE
  | .h => .ldIndHLH | .l => .ldIndHLL | .a => .ldIndHLA

/-- `LD r,n8` (R143). -/
def loadImm : Reg8 → Byte → Instr
  | .b, n => .ldBN8 n | .c, n => .ldCN8 n | .d, n => .ldDN8 n | .e, n => .ldEN8 n
  | .h, n => .ldHN8 n | .l, n => .ldLN8 n | .a, n => .ldAN8 n

/-- `LD rr,n16` (R171). -/
def loadImm16 : Reg16 → Word → Instr
  | .bc, n => .ldBCN16 n | .de, n => .ldDEN16 n | .hl, n => .ldHLN16 n | .sp, n => .ldSPN16 n

/-- `INC rr` (R222). -/
def incReg16 : Reg16 → Instr
  | .bc => .incBC | .de => .incDE | .hl => .incHL | .sp => .incSP

/-- `DEC rr` (R223). -/
def decReg16 : Reg16 → Instr
  | .bc => .decBC | .de => .decDE | .hl => .decHL | .sp => .decSP

/-- `ADD HL,rr` (R221). -/
def addHL : Reg16 → Instr
  | .bc => .addHLBC | .de => .addHLDE | .hl => .addHLHL | .sp => .addHLSP

/-- `PUSH rr` and `PUSH AF` (R174, R175). -/
def push : StackReg → Instr
  | .bc => .pushBC | .de => .pushDE | .hl => .pushHL | .af => .pushAF

/-- `POP rr` and `POP AF` (R176, R177). -/
def pop : StackReg → Instr
  | .bc => .popBC | .de => .popDE | .hl => .popHL | .af => .popAF

/-- The eight operations on a register or `(HL)` (R186). -/
def alu : AluOp → Operand8 → Instr
  | .add, .reg .b => .addAB | .add, .reg .c => .addAC | .add, .reg .d => .addAD | .add, .reg .e => .addAE
  | .add, .reg .h => .addAH | .add, .reg .l => .addAL | .add, .indHL => .addAIndHL | .add, .reg .a => .addAA
  | .adc, .reg .b => .adcAB | .adc, .reg .c => .adcAC | .adc, .reg .d => .adcAD | .adc, .reg .e => .adcAE
  | .adc, .reg .h => .adcAH | .adc, .reg .l => .adcAL | .adc, .indHL => .adcAIndHL | .adc, .reg .a => .adcAA
  | .sub, .reg .b => .subB | .sub, .reg .c => .subC | .sub, .reg .d => .subD | .sub, .reg .e => .subE
  | .sub, .reg .h => .subH | .sub, .reg .l => .subL | .sub, .indHL => .subIndHL | .sub, .reg .a => .subA
  | .sbc, .reg .b => .sbcAB | .sbc, .reg .c => .sbcAC | .sbc, .reg .d => .sbcAD | .sbc, .reg .e => .sbcAE
  | .sbc, .reg .h => .sbcAH | .sbc, .reg .l => .sbcAL | .sbc, .indHL => .sbcAIndHL | .sbc, .reg .a => .sbcAA
  | .and, .reg .b => .andB | .and, .reg .c => .andC | .and, .reg .d => .andD | .and, .reg .e => .andE
  | .and, .reg .h => .andH | .and, .reg .l => .andL | .and, .indHL => .andIndHL | .and, .reg .a => .andA
  | .xor, .reg .b => .xorB | .xor, .reg .c => .xorC | .xor, .reg .d => .xorD | .xor, .reg .e => .xorE
  | .xor, .reg .h => .xorH | .xor, .reg .l => .xorL | .xor, .indHL => .xorIndHL | .xor, .reg .a => .xorA
  | .or, .reg .b => .orB | .or, .reg .c => .orC | .or, .reg .d => .orD | .or, .reg .e => .orE
  | .or, .reg .h => .orH | .or, .reg .l => .orL | .or, .indHL => .orIndHL | .or, .reg .a => .orA
  | .cp, .reg .b => .cpB | .cp, .reg .c => .cpC | .cp, .reg .d => .cpD | .cp, .reg .e => .cpE
  | .cp, .reg .h => .cpH | .cp, .reg .l => .cpL | .cp, .indHL => .cpIndHL | .cp, .reg .a => .cpA

/-- The eight operations on an immediate byte (R186). -/
def aluImm : AluOp → Byte → Instr
  | .add, n => .addAN8 n | .adc, n => .adcAN8 n | .sub, n => .subN8 n | .sbc, n => .sbcAN8 n
  | .and, n => .andN8 n | .xor, n => .xorN8 n | .or, n => .orN8 n | .cp, n => .cpN8 n

/-- `INC r` and `INC (HL)` (R201, R202). -/
def inc : Operand8 → Instr
  | .reg .b => .incB | .reg .c => .incC | .reg .d => .incD | .reg .e => .incE
  | .reg .h => .incH | .reg .l => .incL | .indHL => .incIndHL | .reg .a => .incA

/-- `DEC r` and `DEC (HL)` (R203, R204). -/
def dec : Operand8 → Instr
  | .reg .b => .decB | .reg .c => .decC | .reg .d => .decD | .reg .e => .decE
  | .reg .h => .decH | .reg .l => .decL | .indHL => .decIndHL | .reg .a => .decA

/-- `JP cc,a16` (R262). -/
def jumpIf : Cond → Word → Instr
  | .nz, a => .jpNZA16 a | .z, a => .jpZA16 a | .nc, a => .jpNCA16 a | .c, a => .jpCA16 a

/-- `JR cc,e8` (R265). -/
def jumpRelIf : Cond → Byte → Instr
  | .nz, e => .jrNZE8 e | .z, e => .jrZE8 e | .nc, e => .jrNCE8 e | .c, e => .jrCE8 e

/-- `CALL cc,a16` (R267). -/
def callIf : Cond → Word → Instr
  | .nz, a => .callNZA16 a | .z, a => .callZA16 a | .nc, a => .callNCA16 a | .c, a => .callCA16 a

/-- `RET cc` (R269). -/
def retIf : Cond → Instr
  | .nz => .retNZ | .z => .retZ | .nc => .retNC | .c => .retC

/-- `RST t` with `t = 8 * y` (R273). -/
def restart : Index8 → Instr
  | .i0 => .rst00 | .i1 => .rst08 | .i2 => .rst10 | .i3 => .rst18
  | .i4 => .rst20 | .i5 => .rst28 | .i6 => .rst30 | .i7 => .rst38

/-- The rotates and shifts of the second table (R235 to R242). -/
def rotate : RotOp → Operand8 → Instr
  | .rlc, .reg .b => .rlcB | .rlc, .reg .c => .rlcC | .rlc, .reg .d => .rlcD | .rlc, .reg .e => .rlcE
  | .rlc, .reg .h => .rlcH | .rlc, .reg .l => .rlcL | .rlc, .indHL => .rlcIndHL | .rlc, .reg .a => .rlcA
  | .rrc, .reg .b => .rrcB | .rrc, .reg .c => .rrcC | .rrc, .reg .d => .rrcD | .rrc, .reg .e => .rrcE
  | .rrc, .reg .h => .rrcH | .rrc, .reg .l => .rrcL | .rrc, .indHL => .rrcIndHL | .rrc, .reg .a => .rrcA
  | .rl, .reg .b => .rlB | .rl, .reg .c => .rlC | .rl, .reg .d => .rlD | .rl, .reg .e => .rlE
  | .rl, .reg .h => .rlH | .rl, .reg .l => .rlL | .rl, .indHL => .rlIndHL | .rl, .reg .a => .rlA
  | .rr, .reg .b => .rrB | .rr, .reg .c => .rrC | .rr, .reg .d => .rrD | .rr, .reg .e => .rrE
  | .rr, .reg .h => .rrH | .rr, .reg .l => .rrL | .rr, .indHL => .rrIndHL | .rr, .reg .a => .rrA
  | .sla, .reg .b => .slaB | .sla, .reg .c => .slaC | .sla, .reg .d => .slaD | .sla, .reg .e => .slaE
  | .sla, .reg .h => .slaH | .sla, .reg .l => .slaL | .sla, .indHL => .slaIndHL | .sla, .reg .a => .slaA
  | .sra, .reg .b => .sraB | .sra, .reg .c => .sraC | .sra, .reg .d => .sraD | .sra, .reg .e => .sraE
  | .sra, .reg .h => .sraH | .sra, .reg .l => .sraL | .sra, .indHL => .sraIndHL | .sra, .reg .a => .sraA
  | .swap, .reg .b => .swapB | .swap, .reg .c => .swapC | .swap, .reg .d => .swapD | .swap, .reg .e => .swapE
  | .swap, .reg .h => .swapH | .swap, .reg .l => .swapL | .swap, .indHL => .swapIndHL | .swap, .reg .a => .swapA
  | .srl, .reg .b => .srlB | .srl, .reg .c => .srlC | .srl, .reg .d => .srlD | .srl, .reg .e => .srlE
  | .srl, .reg .h => .srlH | .srl, .reg .l => .srlL | .srl, .indHL => .srlIndHL | .srl, .reg .a => .srlA

/-- `BIT b,r[z]` (R243). -/
def testBit : Index8 → Operand8 → Instr
  | .i0, .reg .b => .bit0B | .i0, .reg .c => .bit0C | .i0, .reg .d => .bit0D | .i0, .reg .e => .bit0E
  | .i0, .reg .h => .bit0H | .i0, .reg .l => .bit0L | .i0, .indHL => .bit0IndHL | .i0, .reg .a => .bit0A
  | .i1, .reg .b => .bit1B | .i1, .reg .c => .bit1C | .i1, .reg .d => .bit1D | .i1, .reg .e => .bit1E
  | .i1, .reg .h => .bit1H | .i1, .reg .l => .bit1L | .i1, .indHL => .bit1IndHL | .i1, .reg .a => .bit1A
  | .i2, .reg .b => .bit2B | .i2, .reg .c => .bit2C | .i2, .reg .d => .bit2D | .i2, .reg .e => .bit2E
  | .i2, .reg .h => .bit2H | .i2, .reg .l => .bit2L | .i2, .indHL => .bit2IndHL | .i2, .reg .a => .bit2A
  | .i3, .reg .b => .bit3B | .i3, .reg .c => .bit3C | .i3, .reg .d => .bit3D | .i3, .reg .e => .bit3E
  | .i3, .reg .h => .bit3H | .i3, .reg .l => .bit3L | .i3, .indHL => .bit3IndHL | .i3, .reg .a => .bit3A
  | .i4, .reg .b => .bit4B | .i4, .reg .c => .bit4C | .i4, .reg .d => .bit4D | .i4, .reg .e => .bit4E
  | .i4, .reg .h => .bit4H | .i4, .reg .l => .bit4L | .i4, .indHL => .bit4IndHL | .i4, .reg .a => .bit4A
  | .i5, .reg .b => .bit5B | .i5, .reg .c => .bit5C | .i5, .reg .d => .bit5D | .i5, .reg .e => .bit5E
  | .i5, .reg .h => .bit5H | .i5, .reg .l => .bit5L | .i5, .indHL => .bit5IndHL | .i5, .reg .a => .bit5A
  | .i6, .reg .b => .bit6B | .i6, .reg .c => .bit6C | .i6, .reg .d => .bit6D | .i6, .reg .e => .bit6E
  | .i6, .reg .h => .bit6H | .i6, .reg .l => .bit6L | .i6, .indHL => .bit6IndHL | .i6, .reg .a => .bit6A
  | .i7, .reg .b => .bit7B | .i7, .reg .c => .bit7C | .i7, .reg .d => .bit7D | .i7, .reg .e => .bit7E
  | .i7, .reg .h => .bit7H | .i7, .reg .l => .bit7L | .i7, .indHL => .bit7IndHL | .i7, .reg .a => .bit7A

/-- `RES b,r[z]` (R244). -/
def resetBit : Index8 → Operand8 → Instr
  | .i0, .reg .b => .res0B | .i0, .reg .c => .res0C | .i0, .reg .d => .res0D | .i0, .reg .e => .res0E
  | .i0, .reg .h => .res0H | .i0, .reg .l => .res0L | .i0, .indHL => .res0IndHL | .i0, .reg .a => .res0A
  | .i1, .reg .b => .res1B | .i1, .reg .c => .res1C | .i1, .reg .d => .res1D | .i1, .reg .e => .res1E
  | .i1, .reg .h => .res1H | .i1, .reg .l => .res1L | .i1, .indHL => .res1IndHL | .i1, .reg .a => .res1A
  | .i2, .reg .b => .res2B | .i2, .reg .c => .res2C | .i2, .reg .d => .res2D | .i2, .reg .e => .res2E
  | .i2, .reg .h => .res2H | .i2, .reg .l => .res2L | .i2, .indHL => .res2IndHL | .i2, .reg .a => .res2A
  | .i3, .reg .b => .res3B | .i3, .reg .c => .res3C | .i3, .reg .d => .res3D | .i3, .reg .e => .res3E
  | .i3, .reg .h => .res3H | .i3, .reg .l => .res3L | .i3, .indHL => .res3IndHL | .i3, .reg .a => .res3A
  | .i4, .reg .b => .res4B | .i4, .reg .c => .res4C | .i4, .reg .d => .res4D | .i4, .reg .e => .res4E
  | .i4, .reg .h => .res4H | .i4, .reg .l => .res4L | .i4, .indHL => .res4IndHL | .i4, .reg .a => .res4A
  | .i5, .reg .b => .res5B | .i5, .reg .c => .res5C | .i5, .reg .d => .res5D | .i5, .reg .e => .res5E
  | .i5, .reg .h => .res5H | .i5, .reg .l => .res5L | .i5, .indHL => .res5IndHL | .i5, .reg .a => .res5A
  | .i6, .reg .b => .res6B | .i6, .reg .c => .res6C | .i6, .reg .d => .res6D | .i6, .reg .e => .res6E
  | .i6, .reg .h => .res6H | .i6, .reg .l => .res6L | .i6, .indHL => .res6IndHL | .i6, .reg .a => .res6A
  | .i7, .reg .b => .res7B | .i7, .reg .c => .res7C | .i7, .reg .d => .res7D | .i7, .reg .e => .res7E
  | .i7, .reg .h => .res7H | .i7, .reg .l => .res7L | .i7, .indHL => .res7IndHL | .i7, .reg .a => .res7A

/-- `SET b,r[z]` (R245). -/
def setBit : Index8 → Operand8 → Instr
  | .i0, .reg .b => .set0B | .i0, .reg .c => .set0C | .i0, .reg .d => .set0D | .i0, .reg .e => .set0E
  | .i0, .reg .h => .set0H | .i0, .reg .l => .set0L | .i0, .indHL => .set0IndHL | .i0, .reg .a => .set0A
  | .i1, .reg .b => .set1B | .i1, .reg .c => .set1C | .i1, .reg .d => .set1D | .i1, .reg .e => .set1E
  | .i1, .reg .h => .set1H | .i1, .reg .l => .set1L | .i1, .indHL => .set1IndHL | .i1, .reg .a => .set1A
  | .i2, .reg .b => .set2B | .i2, .reg .c => .set2C | .i2, .reg .d => .set2D | .i2, .reg .e => .set2E
  | .i2, .reg .h => .set2H | .i2, .reg .l => .set2L | .i2, .indHL => .set2IndHL | .i2, .reg .a => .set2A
  | .i3, .reg .b => .set3B | .i3, .reg .c => .set3C | .i3, .reg .d => .set3D | .i3, .reg .e => .set3E
  | .i3, .reg .h => .set3H | .i3, .reg .l => .set3L | .i3, .indHL => .set3IndHL | .i3, .reg .a => .set3A
  | .i4, .reg .b => .set4B | .i4, .reg .c => .set4C | .i4, .reg .d => .set4D | .i4, .reg .e => .set4E
  | .i4, .reg .h => .set4H | .i4, .reg .l => .set4L | .i4, .indHL => .set4IndHL | .i4, .reg .a => .set4A
  | .i5, .reg .b => .set5B | .i5, .reg .c => .set5C | .i5, .reg .d => .set5D | .i5, .reg .e => .set5E
  | .i5, .reg .h => .set5H | .i5, .reg .l => .set5L | .i5, .indHL => .set5IndHL | .i5, .reg .a => .set5A
  | .i6, .reg .b => .set6B | .i6, .reg .c => .set6C | .i6, .reg .d => .set6D | .i6, .reg .e => .set6E
  | .i6, .reg .h => .set6H | .i6, .reg .l => .set6L | .i6, .indHL => .set6IndHL | .i6, .reg .a => .set6A
  | .i7, .reg .b => .set7B | .i7, .reg .c => .set7C | .i7, .reg .d => .set7D | .i7, .reg .e => .set7E
  | .i7, .reg .h => .set7H | .i7, .reg .l => .set7L | .i7, .indHL => .set7IndHL | .i7, .reg .a => .set7A

/-- The eleven illegal opcodes with the byte each is encoded as (R133). -/
def illegals : List (Byte × Instr) :=
  [(0xD3, .illegalD3), (0xDB, .illegalDB), (0xDD, .illegalDD), (0xE3, .illegalE3), (0xE4, .illegalE4), (0xEB, .illegalEB),
   (0xEC, .illegalEC), (0xED, .illegalED), (0xF4, .illegalF4), (0xFC, .illegalFC), (0xFD, .illegalFD)]

end Instr

end Sys2Proof
end

