-- ==== Sys2Proof/WellFormed.lean ====
section
/-! DEFINITION. Which terms of the syntax are complete instructions. The operands are typed at their widths, so
one check remains. -/

namespace Sys2Proof

/-- An instruction is well formed when it is not the bare prefix byte: 0xCB is "Not an instruction by itself"
(R287), it becomes one with the opcode byte of the second table that follows it (R135). -/
abbrev WellFormed (i : Instr) : Prop := i ≠ .prefixCB

end Sys2Proof
end

