-- ==== Sys2Proof/Decode.lean ====
section
/-! DEFINITION. The decoder, laid out as the grids of R128 and R129, total on any bytes and rejecting by name;
the encoder, written from the encodings of R140 to R288; and the two together on a row of the opcode table.
The words that show each constructor's decoding stand in Sys2Proof/Tests/Slice0.lean. -/

namespace Sys2Proof

open Machine

/-- Why a list of bytes is no instruction. The opcode alone fixes the length (R122), so a list can only be
too short. Raised by `decode`, never by a machine step, which always has three bytes at hand (R281). -/
inductive DecodeError
  /-- there is no byte at all -/
  | noOpcode
  /-- the operand bytes of this opcode are missing -/
  | operandMissing (op : Byte)
  deriving DecidableEq, Repr

/-! The base table (R128), one list for each row of the grid: sixteen opcodes with the same high nibble. The
operand bytes are given as `n`, the byte after the opcode, and `w`, the 16-bit word after it (R127). -/

/-- Opcodes 0x00 to 0x0F (R128). -/
def baseRow0 (n : Byte) (w : Word) : List Instr :=
  [.nop, .ldBCN16 w, .ldIndBCA, .incBC,
   .incB, .decB, .ldBN8 n, .rlca,
   .ldIndA16SP w, .addHLBC, .ldAIndBC, .decBC,
   .incC, .decC, .ldCN8 n, .rrca]

/-- Opcodes 0x10 to 0x1F (R128). -/
def baseRow1 (n : Byte) (w : Word) : List Instr :=
  [.stop, .ldDEN16 w, .ldIndDEA, .incDE,
   .incD, .decD, .ldDN8 n, .rla,
   .jrE8 n, .addHLDE, .ldAIndDE, .decDE,
   .incE, .decE, .ldEN8 n, .rra]

/-- Opcodes 0x20 to 0x2F (R128). -/
def baseRow2 (n : Byte) (w : Word) : List Instr :=
  [.jrNZE8 n, .ldHLN16 w, .ldIndHLIncA, .incHL,
   .incH, .decH, .ldHN8 n, .daa,
   .jrZE8 n, .addHLHL, .ldAIndHLInc, .decHL,
   .incL, .decL, .ldLN8 n, .cpl]

/-- Opcodes 0x30 to 0x3F (R128). -/
def baseRow3 (n : Byte) (w : Word) : List Instr :=
  [.jrNCE8 n, .ldSPN16 w, .ldIndHLDecA, .incSP,
   .incIndHL, .decIndHL, .ldIndHLN8 n, .scf,
   .jrCE8 n, .addHLSP, .ldAIndHLDec, .decSP,
   .incA, .decA, .ldAN8 n, .ccf]

/-- Opcodes 0x40 to 0x4F (R128). -/
def baseRow4 : List Instr :=
  [.ldBB, .ldBC, .ldBD, .ldBE,
   .ldBH, .ldBL, .ldBIndHL, .ldBA,
   .ldCB, .ldCC, .ldCD, .ldCE,
   .ldCH, .ldCL, .ldCIndHL, .ldCA]

/-- Opcodes 0x50 to 0x5F (R128). -/
def baseRow5 : List Instr :=
  [.ldDB, .ldDC, .ldDD, .ldDE,
   .ldDH, .ldDL, .ldDIndHL, .ldDA,
   .ldEB, .ldEC, .ldED, .ldEE,
   .ldEH, .ldEL, .ldEIndHL, .ldEA]

/-- Opcodes 0x60 to 0x6F (R128). -/
def baseRow6 : List Instr :=
  [.ldHB, .ldHC, .ldHD, .ldHE,
   .ldHH, .ldHL, .ldHIndHL, .ldHA,
   .ldLB, .ldLC, .ldLD, .ldLE,
   .ldLH, .ldLL, .ldLIndHL, .ldLA]

/-- Opcodes 0x70 to 0x7F (R128). -/
def baseRow7 : List Instr :=
  [.ldIndHLB, .ldIndHLC, .ldIndHLD, .ldIndHLE,
   .ldIndHLH, .ldIndHLL, .halt, .ldIndHLA,
   .ldAB, .ldAC, .ldAD, .ldAE,
   .ldAH, .ldAL, .ldAIndHL, .ldAA]

/-- Opcodes 0x80 to 0x8F (R128). -/
def baseRow8 : List Instr :=
  [.addAB, .addAC, .addAD, .addAE,
   .addAH, .addAL, .addAIndHL, .addAA,
   .adcAB, .adcAC, .adcAD, .adcAE,
   .adcAH, .adcAL, .adcAIndHL, .adcAA]

/-- Opcodes 0x90 to 0x9F (R128). -/
def baseRow9 : List Instr :=
  [.subB, .subC, .subD, .subE,
   .subH, .subL, .subIndHL, .subA,
   .sbcAB, .sbcAC, .sbcAD, .sbcAE,
   .sbcAH, .sbcAL, .sbcAIndHL, .sbcAA]

/-- Opcodes 0xA0 to 0xAF (R128). -/
def baseRowA : List Instr :=
  [.andB, .andC, .andD, .andE,
   .andH, .andL, .andIndHL, .andA,
   .xorB, .xorC, .xorD, .xorE,
   .xorH, .xorL, .xorIndHL, .xorA]

/-- Opcodes 0xB0 to 0xBF (R128). -/
def baseRowB : List Instr :=
  [.orB, .orC, .orD, .orE,
   .orH, .orL, .orIndHL, .orA,
   .cpB, .cpC, .cpD, .cpE,
   .cpH, .cpL, .cpIndHL, .cpA]

/-- Opcodes 0xC0 to 0xCF (R128). -/
def baseRowC (n : Byte) (w : Word) : List Instr :=
  [.retNZ, .popBC, .jpNZA16 w, .jpA16 w,
   .callNZA16 w, .pushBC, .addAN8 n, .rst00,
   .retZ, .ret, .jpZA16 w, .prefixCB,
   .callZA16 w, .callA16 w, .adcAN8 n, .rst08]

/-- Opcodes 0xD0 to 0xDF (R128). -/
def baseRowD (n : Byte) (w : Word) : List Instr :=
  [.retNC, .popDE, .jpNCA16 w, .illegalD3,
   .callNCA16 w, .pushDE, .subN8 n, .rst10,
   .retC, .reti, .jpCA16 w, .illegalDB,
   .callCA16 w, .illegalDD, .sbcAN8 n, .rst18]

/-- Opcodes 0xE0 to 0xEF (R128). -/
def baseRowE (n : Byte) (w : Word) : List Instr :=
  [.ldhIndA8A n, .popHL, .ldIndCA, .illegalE3,
   .illegalE4, .pushHL, .andN8 n, .rst20,
   .addSPE8 n, .jpHL, .ldIndA16A w, .illegalEB,
   .illegalEC, .illegalED, .xorN8 n, .rst28]

/-- Opcodes 0xF0 to 0xFF (R128). -/
def baseRowF (n : Byte) (w : Word) : List Instr :=
  [.ldhAIndA8 n, .popAF, .ldAIndC, .di,
   .illegalF4, .pushAF, .orN8 n, .rst30,
   .ldHLSPE8 n, .ldSPHL, .ldAIndA16 w, .ei,
   .illegalFC, .illegalFD, .cpN8 n, .rst38]

/-- The base table as its sixteen rows (R128). -/
def baseTable (n : Byte) (w : Word) : List (List Instr) :=
  [baseRow0 n w, baseRow1 n w, baseRow2 n w, baseRow3 n w,
   baseRow4, baseRow5, baseRow6, baseRow7,
   baseRow8, baseRow9, baseRowA, baseRowB,
   baseRowC n w, baseRowD n w, baseRowE n w, baseRowF n w]

/-- The base-table instruction of the opcode `op` with the operand bytes `b1`, `b2` that follow it: `n8`, `e8`
and `a8` are the byte after the opcode, `n16` and `a16` have their low byte first (R127). -/
def baseInstr (op b1 b2 : Byte) : Instr :=
  ((baseTable b1 (joinBytes b2 b1)).getD (op.toNat / 16) []).getD (op.toNat % 16) .nop

/-- Lengths in bytes by the first byte (R128), the rows of the grid of lengths; the prefix counts the byte after it. -/
def baseLengths : List (List Nat) :=
  [[1, 3, 1, 1, 1, 1, 2, 1, 3, 1, 1, 1, 1, 1, 2, 1],
   [1, 3, 1, 1, 1, 1, 2, 1, 2, 1, 1, 1, 1, 1, 2, 1],
   [2, 3, 1, 1, 1, 1, 2, 1, 2, 1, 1, 1, 1, 1, 2, 1],
   [2, 3, 1, 1, 1, 1, 2, 1, 2, 1, 1, 1, 1, 1, 2, 1],
   [1, 1, 1, 1, 1, 1, 1, 1, 1, 1, 1, 1, 1, 1, 1, 1],
   [1, 1, 1, 1, 1, 1, 1, 1, 1, 1, 1, 1, 1, 1, 1, 1],
   [1, 1, 1, 1, 1, 1, 1, 1, 1, 1, 1, 1, 1, 1, 1, 1],
   [1, 1, 1, 1, 1, 1, 1, 1, 1, 1, 1, 1, 1, 1, 1, 1],
   [1, 1, 1, 1, 1, 1, 1, 1, 1, 1, 1, 1, 1, 1, 1, 1],
   [1, 1, 1, 1, 1, 1, 1, 1, 1, 1, 1, 1, 1, 1, 1, 1],
   [1, 1, 1, 1, 1, 1, 1, 1, 1, 1, 1, 1, 1, 1, 1, 1],
   [1, 1, 1, 1, 1, 1, 1, 1, 1, 1, 1, 1, 1, 1, 1, 1],
   [1, 1, 3, 3, 3, 1, 2, 1, 1, 1, 3, 2, 3, 3, 2, 1],
   [1, 1, 3, 1, 3, 1, 2, 1, 1, 1, 3, 1, 3, 1, 2, 1],
   [2, 1, 1, 1, 1, 1, 2, 1, 2, 1, 3, 1, 1, 1, 2, 1],
   [2, 1, 1, 1, 1, 1, 2, 1, 2, 1, 3, 1, 1, 1, 2, 1]]

/-- The length of the instruction that the opcode `op` starts (R122, R128); STOP takes a second byte if
`STOP_SKIPS_OPERAND` says so (R284). -/
def baseLength (op : Byte) : Nat :=
  if op = 0x10 ∧ Config.stopSkipsOperand = true then 2
  else (baseLengths.getD (op.toNat / 16) []).getD (op.toNat % 16) 1

/-! The second table (R129), one list for each row of the grid. -/

/-- Second-table opcodes 0x00 to 0x0F (R129). -/
def cbRow0 : List Instr :=
  [.rlcB, .rlcC, .rlcD, .rlcE, .rlcH, .rlcL, .rlcIndHL, .rlcA,
   .rrcB, .rrcC, .rrcD, .rrcE, .rrcH, .rrcL, .rrcIndHL, .rrcA]

/-- Second-table opcodes 0x10 to 0x1F (R129). -/
def cbRow1 : List Instr :=
  [.rlB, .rlC, .rlD, .rlE, .rlH, .rlL, .rlIndHL, .rlA,
   .rrB, .rrC, .rrD, .rrE, .rrH, .rrL, .rrIndHL, .rrA]

/-- Second-table opcodes 0x20 to 0x2F (R129). -/
def cbRow2 : List Instr :=
  [.slaB, .slaC, .slaD, .slaE, .slaH, .slaL, .slaIndHL, .slaA,
   .sraB, .sraC, .sraD, .sraE, .sraH, .sraL, .sraIndHL, .sraA]

/-- Second-table opcodes 0x30 to 0x3F (R129). -/
def cbRow3 : List Instr :=
  [.swapB, .swapC, .swapD, .swapE, .swapH, .swapL, .swapIndHL, .swapA,
   .srlB, .srlC, .srlD, .srlE, .srlH, .srlL, .srlIndHL, .srlA]

/-- Second-table opcodes 0x40 to 0x4F (R129). -/
def cbRow4 : List Instr :=
  [.bit0B, .bit0C, .bit0D, .bit0E, .bit0H, .bit0L, .bit0IndHL, .bit0A,
   .bit1B, .bit1C, .bit1D, .bit1E, .bit1H, .bit1L, .bit1IndHL, .bit1A]

/-- Second-table opcodes 0x50 to 0x5F (R129). -/
def cbRow5 : List Instr :=
  [.bit2B, .bit2C, .bit2D, .bit2E, .bit2H, .bit2L, .bit2IndHL, .bit2A,
   .bit3B, .bit3C, .bit3D, .bit3E, .bit3H, .bit3L, .bit3IndHL, .bit3A]

/-- Second-table opcodes 0x60 to 0x6F (R129). -/
def cbRow6 : List Instr :=
  [.bit4B, .bit4C, .bit4D, .bit4E, .bit4H, .bit4L, .bit4IndHL, .bit4A,
   .bit5B, .bit5C, .bit5D, .bit5E, .bit5H, .bit5L, .bit5IndHL, .bit5A]

/-- Second-table opcodes 0x70 to 0x7F (R129). -/
def cbRow7 : List Instr :=
  [.bit6B, .bit6C, .bit6D, .bit6E, .bit6H, .bit6L, .bit6IndHL, .bit6A,
   .bit7B, .bit7C, .bit7D, .bit7E, .bit7H, .bit7L, .bit7IndHL, .bit7A]

/-- Second-table opcodes 0x80 to 0x8F (R129). -/
def cbRow8 : List Instr :=
  [.res0B, .res0C, .res0D, .res0E, .res0H, .res0L, .res0IndHL, .res0A,
   .res1B, .res1C, .res1D, .res1E, .res1H, .res1L, .res1IndHL, .res1A]

/-- Second-table opcodes 0x90 to 0x9F (R129). -/
def cbRow9 : List Instr :=
  [.res2B, .res2C, .res2D, .res2E, .res2H, .res2L, .res2IndHL, .res2A,
   .res3B, .res3C, .res3D, .res3E, .res3H, .res3L, .res3IndHL, .res3A]

/-- Second-table opcodes 0xA0 to 0xAF (R129). -/
def cbRowA : List Instr :=
  [.res4B, .res4C, .res4D, .res4E, .res4H, .res4L, .res4IndHL, .res4A,
   .res5B, .res5C, .res5D, .res5E, .res5H, .res5L, .res5IndHL, .res5A]

/-- Second-table opcodes 0xB0 to 0xBF (R129). -/
def cbRowB : List Instr :=
  [.res6B, .res6C, .res6D, .res6E, .res6H, .res6L, .res6IndHL, .res6A,
   .res7B, .res7C, .res7D, .res7E, .res7H, .res7L, .res7IndHL, .res7A]

/-- Second-table opcodes 0xC0 to 0xCF (R129). -/
def cbRowC : List Instr :=
  [.set0B, .set0C, .set0D, .set0E, .set0H, .set0L, .set0IndHL, .set0A,
   .set1B, .set1C, .set1D, .set1E, .set1H, .set1L, .set1IndHL, .set1A]

/-- Second-table opcodes 0xD0 to 0xDF (R129). -/
def cbRowD : List Instr :=
  [.set2B, .set2C, .set2D, .set2E, .set2H, .set2L, .set2IndHL, .set2A,
   .set3B, .set3C, .set3D, .set3E, .set3H, .set3L, .set3IndHL, .set3A]

/-- Second-table opcodes 0xE0 to 0xEF (R129). -/
def cbRowE : List Instr :=
  [.set4B, .set4C, .set4D, .set4E, .set4H, .set4L, .set4IndHL, .set4A,
   .set5B, .set5C, .set5D, .set5E, .set5H, .set5L, .set5IndHL, .set5A]

/-- Second-table opcodes 0xF0 to 0xFF (R129). -/
def cbRowF : List Instr :=
  [.set6B, .set6C, .set6D, .set6E, .set6H, .set6L, .set6IndHL, .set6A,
   .set7B, .set7C, .set7D, .set7E, .set7H, .set7L, .set7IndHL, .set7A]

/-- The second table as its sixteen rows (R129). -/
def cbTable : List (List Instr) :=
  [cbRow0, cbRow1, cbRow2, cbRow3, cbRow4, cbRow5, cbRow6, cbRow7,
   cbRow8, cbRow9, cbRowA, cbRowB, cbRowC, cbRowD, cbRowE, cbRowF]

/-- The second-table instruction of the byte after the prefix (R129); every one of the 256 is defined. -/
def cbInstr (op : Byte) : Instr :=
  (cbTable.getD (op.toNat / 16) []).getD (op.toNat % 16) .nop

/-- The instruction that starts at the first of three bytes: decode is a total function (R281), and the bytes an
instruction does not have are ignored. After 0xCB the second byte selects in the second table (R135). -/
def decodeBytes (b0 b1 b2 : Byte) : Instr :=
  if b0 = 0xCB then cbInstr b1 else baseInstr b0 b1 b2

/-- Reads one instruction off a list of bytes and gives the rest (R122). The prefix byte with nothing after it is
read as the bare prefix (R287; log 8). -/
def decode : List Byte → Except DecodeError (Instr × List Byte)
  | [] => .error .noOpcode
  | op :: rest =>
    if op = 0xCB then
      match rest with
      | [] => .ok (.prefixCB, [])
      | op2 :: rest' => .ok (cbInstr op2, rest')
    else
      match baseLength op, rest with
      | 2, b1 :: rest' => .ok (baseInstr op b1 0, rest')
      | 3, b1 :: b2 :: rest' => .ok (baseInstr op b1 b2, rest')
      | 2, [] => .error (.operandMissing op)
      | 3, _ => .error (.operandMissing op)
      | _, _ => .ok (baseInstr op 0 0, rest)

/-! The encoder, from the encoding each rule gives (`OP`, `OP_N8`, `OP_E8`, `OP_N16`, `CB` of R120). -/

/-- Format `OP_N16`: the opcode, then the operand word with its low byte first (R120, R71). -/
def encodeWord (op : Byte) (v : Word) : List Byte := [op, lowByte v, highByte v]

/-- The bytes of an instruction, first byte first. -/
def encode : Instr → List Byte
  | .nop => [0x00]
  | .ldBCN16 w => encodeWord 0x01 w
  | .ldIndBCA => [0x02]
  | .incBC => [0x03]
  | .incB => [0x04]
  | .decB => [0x05]
  | .ldBN8 n => [0x06, n]
  | .rlca => [0x07]
  | .ldIndA16SP w => encodeWord 0x08 w
  | .addHLBC => [0x09]
  | .ldAIndBC => [0x0A]
  | .decBC => [0x0B]
  | .incC => [0x0C]
  | .decC => [0x0D]
  | .ldCN8 n => [0x0E, n]
  | .rrca => [0x0F]
  | .stop => if Config.stopSkipsOperand then [0x10, 0x00] else [0x10]
  | .ldDEN16 w => encodeWord 0x11 w
  | .ldIndDEA => [0x12]
  | .incDE => [0x13]
  | .incD => [0x14]
  | .decD => [0x15]
  | .ldDN8 n => [0x16, n]
  | .rla => [0x17]
  | .jrE8 n => [0x18, n]
  | .addHLDE => [0x19]
  | .ldAIndDE => [0x1A]
  | .decDE => [0x1B]
  | .incE => [0x1C]
  | .decE => [0x1D]
  | .ldEN8 n => [0x1E, n]
  | .rra => [0x1F]
  | .jrNZE8 n => [0x20, n]
  | .ldHLN16 w => encodeWord 0x21 w
  | .ldIndHLIncA => [0x22]
  | .incHL => [0x23]
  | .incH => [0x24]
  | .decH => [0x25]
  | .ldHN8 n => [0x26, n]
  | .daa => [0x27]
  | .jrZE8 n => [0x28, n]
  | .addHLHL => [0x29]
  | .ldAIndHLInc => [0x2A]
  | .decHL => [0x2B]
  | .incL => [0x2C]
  | .decL => [0x2D]
  | .ldLN8 n => [0x2E, n]
  | .cpl => [0x2F]
  | .jrNCE8 n => [0x30, n]
  | .ldSPN16 w => encodeWord 0x31 w
  | .ldIndHLDecA => [0x32]
  | .incSP => [0x33]
  | .incIndHL => [0x34]
  | .decIndHL => [0x35]
  | .ldIndHLN8 n => [0x36, n]
  | .scf => [0x37]
  | .jrCE8 n => [0x38, n]
  | .addHLSP => [0x39]
  | .ldAIndHLDec => [0x3A]
  | .decSP => [0x3B]
  | .incA => [0x3C]
  | .decA => [0x3D]
  | .ldAN8 n => [0x3E, n]
  | .ccf => [0x3F]
  | .ldBB => [0x40]
  | .ldBC => [0x41]
  | .ldBD => [0x42]
  | .ldBE => [0x43]
  | .ldBH => [0x44]
  | .ldBL => [0x45]
  | .ldBIndHL => [0x46]
  | .ldBA => [0x47]
  | .ldCB => [0x48]
  | .ldCC => [0x49]
  | .ldCD => [0x4A]
  | .ldCE => [0x4B]
  | .ldCH => [0x4C]
  | .ldCL => [0x4D]
  | .ldCIndHL => [0x4E]
  | .ldCA => [0x4F]
  | .ldDB => [0x50]
  | .ldDC => [0x51]
  | .ldDD => [0x52]
  | .ldDE => [0x53]
  | .ldDH => [0x54]
  | .ldDL => [0x55]
  | .ldDIndHL => [0x56]
  | .ldDA => [0x57]
  | .ldEB => [0x58]
  | .ldEC => [0x59]
  | .ldED => [0x5A]
  | .ldEE => [0x5B]
  | .ldEH => [0x5C]
  | .ldEL => [0x5D]
  | .ldEIndHL => [0x5E]
  | .ldEA => [0x5F]
  | .ldHB => [0x60]
  | .ldHC => [0x61]
  | .ldHD => [0x62]
  | .ldHE => [0x63]
  | .ldHH => [0x64]
  | .ldHL => [0x65]
  | .ldHIndHL => [0x66]
  | .ldHA => [0x67]
  | .ldLB => [0x68]
  | .ldLC => [0x69]
  | .ldLD => [0x6A]
  | .ldLE => [0x6B]
  | .ldLH => [0x6C]
  | .ldLL => [0x6D]
  | .ldLIndHL => [0x6E]
  | .ldLA => [0x6F]
  | .ldIndHLB => [0x70]
  | .ldIndHLC => [0x71]
  | .ldIndHLD => [0x72]
  | .ldIndHLE => [0x73]
  | .ldIndHLH => [0x74]
  | .ldIndHLL => [0x75]
  | .halt => [0x76]
  | .ldIndHLA => [0x77]
  | .ldAB => [0x78]
  | .ldAC => [0x79]
  | .ldAD => [0x7A]
  | .ldAE => [0x7B]
  | .ldAH => [0x7C]
  | .ldAL => [0x7D]
  | .ldAIndHL => [0x7E]
  | .ldAA => [0x7F]
  | .addAB => [0x80]
  | .addAC => [0x81]
  | .addAD => [0x82]
  | .addAE => [0x83]
  | .addAH => [0x84]
  | .addAL => [0x85]
  | .addAIndHL => [0x86]
  | .addAA => [0x87]
  | .adcAB => [0x88]
  | .adcAC => [0x89]
  | .adcAD => [0x8A]
  | .adcAE => [0x8B]
  | .adcAH => [0x8C]
  | .adcAL => [0x8D]
  | .adcAIndHL => [0x8E]
  | .adcAA => [0x8F]
  | .subB => [0x90]
  | .subC => [0x91]
  | .subD => [0x92]
  | .subE => [0x93]
  | .subH => [0x94]
  | .subL => [0x95]
  | .subIndHL => [0x96]
  | .subA => [0x97]
  | .sbcAB => [0x98]
  | .sbcAC => [0x99]
  | .sbcAD => [0x9A]
  | .sbcAE => [0x9B]
  | .sbcAH => [0x9C]
  | .sbcAL => [0x9D]
  | .sbcAIndHL => [0x9E]
  | .sbcAA => [0x9F]
  | .andB => [0xA0]
  | .andC => [0xA1]
  | .andD => [0xA2]
  | .andE => [0xA3]
  | .andH => [0xA4]
  | .andL => [0xA5]
  | .andIndHL => [0xA6]
  | .andA => [0xA7]
  | .xorB => [0xA8]
  | .xorC => [0xA9]
  | .xorD => [0xAA]
  | .xorE => [0xAB]
  | .xorH => [0xAC]
  | .xorL => [0xAD]
  | .xorIndHL => [0xAE]
  | .xorA => [0xAF]
  | .orB => [0xB0]
  | .orC => [0xB1]
  | .orD => [0xB2]
  | .orE => [0xB3]
  | .orH => [0xB4]
  | .orL => [0xB5]
  | .orIndHL => [0xB6]
  | .orA => [0xB7]
  | .cpB => [0xB8]
  | .cpC => [0xB9]
  | .cpD => [0xBA]
  | .cpE => [0xBB]
  | .cpH => [0xBC]
  | .cpL => [0xBD]
  | .cpIndHL => [0xBE]
  | .cpA => [0xBF]
  | .retNZ => [0xC0]
  | .popBC => [0xC1]
  | .jpNZA16 w => encodeWord 0xC2 w
  | .jpA16 w => encodeWord 0xC3 w
  | .callNZA16 w => encodeWord 0xC4 w
  | .pushBC => [0xC5]
  | .addAN8 n => [0xC6, n]
  | .rst00 => [0xC7]
  | .retZ => [0xC8]
  | .ret => [0xC9]
  | .jpZA16 w => encodeWord 0xCA w
  | .prefixCB => [0xCB]
  | .callZA16 w => encodeWord 0xCC w
  | .callA16 w => encodeWord 0xCD w
  | .adcAN8 n => [0xCE, n]
  | .rst08 => [0xCF]
  | .retNC => [0xD0]
  | .popDE => [0xD1]
  | .jpNCA16 w => encodeWord 0xD2 w
  | .illegalD3 => [0xD3]
  | .callNCA16 w => encodeWord 0xD4 w
  | .pushDE => [0xD5]
  | .subN8 n => [0xD6, n]
  | .rst10 => [0xD7]
  | .retC => [0xD8]
  | .reti => [0xD9]
  | .jpCA16 w => encodeWord 0xDA w
  | .illegalDB => [0xDB]
  | .callCA16 w => encodeWord 0xDC w
  | .illegalDD => [0xDD]
  | .sbcAN8 n => [0xDE, n]
  | .rst18 => [0xDF]
  | .ldhIndA8A n => [0xE0, n]
  | .popHL => [0xE1]
  | .ldIndCA => [0xE2]
  | .illegalE3 => [0xE3]
  | .illegalE4 => [0xE4]
  | .pushHL => [0xE5]
  | .andN8 n => [0xE6, n]
  | .rst20 => [0xE7]
  | .addSPE8 n => [0xE8, n]
  | .jpHL => [0xE9]
  | .ldIndA16A w => encodeWord 0xEA w
  | .illegalEB => [0xEB]
  | .illegalEC => [0xEC]
  | .illegalED => [0xED]
  | .xorN8 n => [0xEE, n]
  | .rst28 => [0xEF]
  | .ldhAIndA8 n => [0xF0, n]
  | .popAF => [0xF1]
  | .ldAIndC => [0xF2]
  | .di => [0xF3]
  | .illegalF4 => [0xF4]
  | .pushAF => [0xF5]
  | .orN8 n => [0xF6, n]
  | .rst30 => [0xF7]
  | .ldHLSPE8 n => [0xF8, n]
  | .ldSPHL => [0xF9]
  | .ldAIndA16 w => encodeWord 0xFA w
  | .ei => [0xFB]
  | .illegalFC => [0xFC]
  | .illegalFD => [0xFD]
  | .cpN8 n => [0xFE, n]
  | .rst38 => [0xFF]
  | .rlcB => [0xCB, 0x00]
  | .rlcC => [0xCB, 0x01]
  | .rlcD => [0xCB, 0x02]
  | .rlcE => [0xCB, 0x03]
  | .rlcH => [0xCB, 0x04]
  | .rlcL => [0xCB, 0x05]
  | .rlcIndHL => [0xCB, 0x06]
  | .rlcA => [0xCB, 0x07]
  | .rrcB => [0xCB, 0x08]
  | .rrcC => [0xCB, 0x09]
  | .rrcD => [0xCB, 0x0A]
  | .rrcE => [0xCB, 0x0B]
  | .rrcH => [0xCB, 0x0C]
  | .rrcL => [0xCB, 0x0D]
  | .rrcIndHL => [0xCB, 0x0E]
  | .rrcA => [0xCB, 0x0F]
  | .rlB => [0xCB, 0x10]
  | .rlC => [0xCB, 0x11]
  | .rlD => [0xCB, 0x12]
  | .rlE => [0xCB, 0x13]
  | .rlH => [0xCB, 0x14]
  | .rlL => [0xCB, 0x15]
  | .rlIndHL => [0xCB, 0x16]
  | .rlA => [0xCB, 0x17]
  | .rrB => [0xCB, 0x18]
  | .rrC => [0xCB, 0x19]
  | .rrD => [0xCB, 0x1A]
  | .rrE => [0xCB, 0x1B]
  | .rrH => [0xCB, 0x1C]
  | .rrL => [0xCB, 0x1D]
  | .rrIndHL => [0xCB, 0x1E]
  | .rrA => [0xCB, 0x1F]
  | .slaB => [0xCB, 0x20]
  | .slaC => [0xCB, 0x21]
  | .slaD => [0xCB, 0x22]
  | .slaE => [0xCB, 0x23]
  | .slaH => [0xCB, 0x24]
  | .slaL => [0xCB, 0x25]
  | .slaIndHL => [0xCB, 0x26]
  | .slaA => [0xCB, 0x27]
  | .sraB => [0xCB, 0x28]
  | .sraC => [0xCB, 0x29]
  | .sraD => [0xCB, 0x2A]
  | .sraE => [0xCB, 0x2B]
  | .sraH => [0xCB, 0x2C]
  | .sraL => [0xCB, 0x2D]
  | .sraIndHL => [0xCB, 0x2E]
  | .sraA => [0xCB, 0x2F]
  | .swapB => [0xCB, 0x30]
  | .swapC => [0xCB, 0x31]
  | .swapD => [0xCB, 0x32]
  | .swapE => [0xCB, 0x33]
  | .swapH => [0xCB, 0x34]
  | .swapL => [0xCB, 0x35]
  | .swapIndHL => [0xCB, 0x36]
  | .swapA => [0xCB, 0x37]
  | .srlB => [0xCB, 0x38]
  | .srlC => [0xCB, 0x39]
  | .srlD => [0xCB, 0x3A]
  | .srlE => [0xCB, 0x3B]
  | .srlH => [0xCB, 0x3C]
  | .srlL => [0xCB, 0x3D]
  | .srlIndHL => [0xCB, 0x3E]
  | .srlA => [0xCB, 0x3F]
  | .bit0B => [0xCB, 0x40]
  | .bit0C => [0xCB, 0x41]
  | .bit0D => [0xCB, 0x42]
  | .bit0E => [0xCB, 0x43]
  | .bit0H => [0xCB, 0x44]
  | .bit0L => [0xCB, 0x45]
  | .bit0IndHL => [0xCB, 0x46]
  | .bit0A => [0xCB, 0x47]
  | .bit1B => [0xCB, 0x48]
  | .bit1C => [0xCB, 0x49]
  | .bit1D => [0xCB, 0x4A]
  | .bit1E => [0xCB, 0x4B]
  | .bit1H => [0xCB, 0x4C]
  | .bit1L => [0xCB, 0x4D]
  | .bit1IndHL => [0xCB, 0x4E]
  | .bit1A => [0xCB, 0x4F]
  | .bit2B => [0xCB, 0x50]
  | .bit2C => [0xCB, 0x51]
  | .bit2D => [0xCB, 0x52]
  | .bit2E => [0xCB, 0x53]
  | .bit2H => [0xCB, 0x54]
  | .bit2L => [0xCB, 0x55]
  | .bit2IndHL => [0xCB, 0x56]
  | .bit2A => [0xCB, 0x57]
  | .bit3B => [0xCB, 0x58]
  | .bit3C => [0xCB, 0x59]
  | .bit3D => [0xCB, 0x5A]
  | .bit3E => [0xCB, 0x5B]
  | .bit3H => [0xCB, 0x5C]
  | .bit3L => [0xCB, 0x5D]
  | .bit3IndHL => [0xCB, 0x5E]
  | .bit3A => [0xCB, 0x5F]
  | .bit4B => [0xCB, 0x60]
  | .bit4C => [0xCB, 0x61]
  | .bit4D => [0xCB, 0x62]
  | .bit4E => [0xCB, 0x63]
  | .bit4H => [0xCB, 0x64]
  | .bit4L => [0xCB, 0x65]
  | .bit4IndHL => [0xCB, 0x66]
  | .bit4A => [0xCB, 0x67]
  | .bit5B => [0xCB, 0x68]
  | .bit5C => [0xCB, 0x69]
  | .bit5D => [0xCB, 0x6A]
  | .bit5E => [0xCB, 0x6B]
  | .bit5H => [0xCB, 0x6C]
  | .bit5L => [0xCB, 0x6D]
  | .bit5IndHL => [0xCB, 0x6E]
  | .bit5A => [0xCB, 0x6F]
  | .bit6B => [0xCB, 0x70]
  | .bit6C => [0xCB, 0x71]
  | .bit6D => [0xCB, 0x72]
  | .bit6E => [0xCB, 0x73]
  | .bit6H => [0xCB, 0x74]
  | .bit6L => [0xCB, 0x75]
  | .bit6IndHL => [0xCB, 0x76]
  | .bit6A => [0xCB, 0x77]
  | .bit7B => [0xCB, 0x78]
  | .bit7C => [0xCB, 0x79]
  | .bit7D => [0xCB, 0x7A]
  | .bit7E => [0xCB, 0x7B]
  | .bit7H => [0xCB, 0x7C]
  | .bit7L => [0xCB, 0x7D]
  | .bit7IndHL => [0xCB, 0x7E]
  | .bit7A => [0xCB, 0x7F]
  | .res0B => [0xCB, 0x80]
  | .res0C => [0xCB, 0x81]
  | .res0D => [0xCB, 0x82]
  | .res0E => [0xCB, 0x83]
  | .res0H => [0xCB, 0x84]
  | .res0L => [0xCB, 0x85]
  | .res0IndHL => [0xCB, 0x86]
  | .res0A => [0xCB, 0x87]
  | .res1B => [0xCB, 0x88]
  | .res1C => [0xCB, 0x89]
  | .res1D => [0xCB, 0x8A]
  | .res1E => [0xCB, 0x8B]
  | .res1H => [0xCB, 0x8C]
  | .res1L => [0xCB, 0x8D]
  | .res1IndHL => [0xCB, 0x8E]
  | .res1A => [0xCB, 0x8F]
  | .res2B => [0xCB, 0x90]
  | .res2C => [0xCB, 0x91]
  | .res2D => [0xCB, 0x92]
  | .res2E => [0xCB, 0x93]
  | .res2H => [0xCB, 0x94]
  | .res2L => [0xCB, 0x95]
  | .res2IndHL => [0xCB, 0x96]
  | .res2A => [0xCB, 0x97]
  | .res3B => [0xCB, 0x98]
  | .res3C => [0xCB, 0x99]
  | .res3D => [0xCB, 0x9A]
  | .res3E => [0xCB, 0x9B]
  | .res3H => [0xCB, 0x9C]
  | .res3L => [0xCB, 0x9D]
  | .res3IndHL => [0xCB, 0x9E]
  | .res3A => [0xCB, 0x9F]
  | .res4B => [0xCB, 0xA0]
  | .res4C => [0xCB, 0xA1]
  | .res4D => [0xCB, 0xA2]
  | .res4E => [0xCB, 0xA3]
  | .res4H => [0xCB, 0xA4]
  | .res4L => [0xCB, 0xA5]
  | .res4IndHL => [0xCB, 0xA6]
  | .res4A => [0xCB, 0xA7]
  | .res5B => [0xCB, 0xA8]
  | .res5C => [0xCB, 0xA9]
  | .res5D => [0xCB, 0xAA]
  | .res5E => [0xCB, 0xAB]
  | .res5H => [0xCB, 0xAC]
  | .res5L => [0xCB, 0xAD]
  | .res5IndHL => [0xCB, 0xAE]
  | .res5A => [0xCB, 0xAF]
  | .res6B => [0xCB, 0xB0]
  | .res6C => [0xCB, 0xB1]
  | .res6D => [0xCB, 0xB2]
  | .res6E => [0xCB, 0xB3]
  | .res6H => [0xCB, 0xB4]
  | .res6L => [0xCB, 0xB5]
  | .res6IndHL => [0xCB, 0xB6]
  | .res6A => [0xCB, 0xB7]
  | .res7B => [0xCB, 0xB8]
  | .res7C => [0xCB, 0xB9]
  | .res7D => [0xCB, 0xBA]
  | .res7E => [0xCB, 0xBB]
  | .res7H => [0xCB, 0xBC]
  | .res7L => [0xCB, 0xBD]
  | .res7IndHL => [0xCB, 0xBE]
  | .res7A => [0xCB, 0xBF]
  | .set0B => [0xCB, 0xC0]
  | .set0C => [0xCB, 0xC1]
  | .set0D => [0xCB, 0xC2]
  | .set0E => [0xCB, 0xC3]
  | .set0H => [0xCB, 0xC4]
  | .set0L => [0xCB, 0xC5]
  | .set0IndHL => [0xCB, 0xC6]
  | .set0A => [0xCB, 0xC7]
  | .set1B => [0xCB, 0xC8]
  | .set1C => [0xCB, 0xC9]
  | .set1D => [0xCB, 0xCA]
  | .set1E => [0xCB, 0xCB]
  | .set1H => [0xCB, 0xCC]
  | .set1L => [0xCB, 0xCD]
  | .set1IndHL => [0xCB, 0xCE]
  | .set1A => [0xCB, 0xCF]
  | .set2B => [0xCB, 0xD0]
  | .set2C => [0xCB, 0xD1]
  | .set2D => [0xCB, 0xD2]
  | .set2E => [0xCB, 0xD3]
  | .set2H => [0xCB, 0xD4]
  | .set2L => [0xCB, 0xD5]
  | .set2IndHL => [0xCB, 0xD6]
  | .set2A => [0xCB, 0xD7]
  | .set3B => [0xCB, 0xD8]
  | .set3C => [0xCB, 0xD9]
  | .set3D => [0xCB, 0xDA]
  | .set3E => [0xCB, 0xDB]
  | .set3H => [0xCB, 0xDC]
  | .set3L => [0xCB, 0xDD]
  | .set3IndHL => [0xCB, 0xDE]
  | .set3A => [0xCB, 0xDF]
  | .set4B => [0xCB, 0xE0]
  | .set4C => [0xCB, 0xE1]
  | .set4D => [0xCB, 0xE2]
  | .set4E => [0xCB, 0xE3]
  | .set4H => [0xCB, 0xE4]
  | .set4L => [0xCB, 0xE5]
  | .set4IndHL => [0xCB, 0xE6]
  | .set4A => [0xCB, 0xE7]
  | .set5B => [0xCB, 0xE8]
  | .set5C => [0xCB, 0xE9]
  | .set5D => [0xCB, 0xEA]
  | .set5E => [0xCB, 0xEB]
  | .set5H => [0xCB, 0xEC]
  | .set5L => [0xCB, 0xED]
  | .set5IndHL => [0xCB, 0xEE]
  | .set5A => [0xCB, 0xEF]
  | .set6B => [0xCB, 0xF0]
  | .set6C => [0xCB, 0xF1]
  | .set6D => [0xCB, 0xF2]
  | .set6E => [0xCB, 0xF3]
  | .set6H => [0xCB, 0xF4]
  | .set6L => [0xCB, 0xF5]
  | .set6IndHL => [0xCB, 0xF6]
  | .set6A => [0xCB, 0xF7]
  | .set7B => [0xCB, 0xF8]
  | .set7C => [0xCB, 0xF9]
  | .set7D => [0xCB, 0xFA]
  | .set7E => [0xCB, 0xFB]
  | .set7H => [0xCB, 0xFC]
  | .set7L => [0xCB, 0xFD]
  | .set7IndHL => [0xCB, 0xFE]
  | .set7A => [0xCB, 0xFF]

/-! An instruction given as a row of the opcode table gives it: `nbits` bits, whose value is `w`. -/

/-- The bytes of a table row, in the order they lie in memory. The table gives a base-table row the one byte of
its opcode; it gives a second-table row two bytes and numbers them with the prefix byte HIGH (`0xCB00 | opcode`,
R138). A two-byte word with 0xCB in its low half is read with its low byte first (log 7). -/
def tableRowBytes (nbits w : Nat) : List Byte :=
  if nbits ≤ 8 then [BitVec.ofNat 8 w]
  else if nbits ≤ 16 then
    if w / 256 % 256 = 0xCB then [0xCB, BitVec.ofNat 8 w]
    else [BitVec.ofNat 8 w, BitVec.ofNat 8 (w / 256)]
  else [BitVec.ofNat 8 w, BitVec.ofNat 8 (w / 256), BitVec.ofNat 8 (w / 65536)]

/-- The three bytes that stand for a table row in memory: its own bytes and zeros after them. -/
def tableWordBytes (nbits w : Nat) : Byte × Byte × Byte :=
  let bs := tableRowBytes nbits w
  (bs.getD 0 0, bs.getD 1 0, bs.getD 2 0)

/-- The instruction the decoder reads from a table row. The row of the prefix byte is that byte alone (log 8);
every other row is read from its bytes and the zeros after them. -/
def decodeTableWord (nbits w : Nat) : Option Instr :=
  let bs := tableRowBytes nbits w
  let padded := if bs = [0xCB] then bs else bs ++ List.replicate (3 - bs.length) 0
  match decode padded with
  | .ok (i, _) => some i
  | .error _ => none

end Sys2Proof
end

