-- ==== Sys2Proof/Machine/State.lean ====
section
/-! DEFINITION. The state of the machine as plain data: every piece the spec names (10_state.md, the bank
registers of 21_cartridge_mbc.md, the sound unit of R441), the host's inputs and the outputs that leave the core
(R336), and the model's own `cycles`. Then the reasons a step can stop, and the state after reset (R49, R450 to
R456). -/

namespace Sys2Proof.Machine

/-- The machine has no run-time error: no instruction traps, faults or aborts (R300), so there is no fault.
No definition raises one. -/
inductive Fault
  deriving DecidableEq, Repr

/-- Why the model answers no next state. -/
inductive Refusal
  /-- An instruction of the table that has no meaning in the model yet. Raised by an arm of `exec` only; no arm
  raises it. Safe: nothing is claimed of the instruction. -/
  | notModelled (mnemonic : String)
  /-- The controller-type byte is not in the table of R92: the load failure of R91, R337. Raised by
  `loadCartridge` only, before any step. Safe: there is no such machine. -/
  | unsupportedController (code : Byte)
  /-- The image is shorter than 0x150 bytes: the load failure of R337. Raised by `loadCartridge` only, before
  any step. Safe: there is no such machine. -/
  | truncatedImage (length : Nat)
  deriving DecidableEq, Repr

/-- The four flags of `F` (R13). `F[3:0] = 0` always (R12), so the four booleans are the register. -/
structure Flags where
  z : Bool
  n : Bool
  h : Bool
  c : Bool
  deriving DecidableEq, Repr

/-- The storage regions of R22 that are arrays of bytes. `IE`, the one-byte region, is the field `ie` of
State. -/
inductive Region
  | rom | vram | extRam | wram0 | wram1 | oam | io | hram
  deriving DecidableEq, Repr

/-- The contents of the storage regions (R22), each a list of (index in the region, byte) pairs in the canonical
form of `Memory.wf`, and the lengths of the two arrays that the cartridge decides. `rom` is the cartridge image,
which no step changes (R55; log 1). -/
structure Memory where
  /-- the length of the cartridge image -/
  romSize : Nat
  /-- `EXT_RAM_SIZE` (R93) -/
  extRamSize : Nat
  rom : List Host.Cell
  vram : List Host.Cell
  extRam : List Host.Cell
  wram0 : List Host.Cell
  wram1 : List Host.Cell
  oam : List Host.Cell
  /-- the I/O register file, 0xFF00 to 0xFF7F (R30) -/
  io : List Host.Cell
  hram : List Host.Cell
  deriving DecidableEq, Repr

/-- The registers of MBC1 (R100). -/
structure Mbc1 where
  ramEnable : Bool
  bank1 : BitVec 5
  bank2 : BitVec 2
  bankMode : Bool
  deriving DecidableEq, Repr

/-- The registers of MBC2 (R102). -/
structure Mbc2 where
  ramEnable : Bool
  romBank : BitVec 4
  deriving DecidableEq, Repr

/-- The registers of MBC3 (R104). -/
structure Mbc3 where
  ramEnable : Bool
  romBank : BitVec 7
  ramBank : BitVec 4
  deriving DecidableEq, Repr

/-- The registers of MBC5 (R106). -/
structure Mbc5 where
  ramEnable : Bool
  romBank : BitVec 9
  ramBank : BitVec 4
  deriving DecidableEq, Repr

/-- `BankState` (R27): "a tagged variant over controller kinds, each carrying its own bank-state fields"
(R91). -/
inductive BankState
  | noBanking
  | mbc1 (m : Mbc1)
  | mbc2 (m : Mbc2)
  | mbc3 (m : Mbc3)
  | mbc5 (m : Mbc5)
  deriving DecidableEq, Repr

/-- The PPU's `Mode` (R362): 0 HBlank, 1 VBlank, 2 OamScan, 3 PixelTransfer. -/
inductive PpuMode
  | hBlank | vBlank | oamScan | pixelTransfer
  deriving DecidableEq, Repr

/-- The frame buffer of R25, 144 lines of 160 pixels, kept as shades (R397; log 9). -/
abbrev Frame := List (List Shade)

/-- The eight buttons, true while held (R26, R420). -/
structure Buttons where
  right : Bool
  left : Bool
  up : Bool
  down : Bool
  a : Bool
  b : Bool
  select : Bool
  start : Bool
  deriving DecidableEq, Repr

/-- The whole machine. -/
structure State where
  /-- the 8-bit registers (R10) -/
  a : Byte
  b : Byte
  c : Byte
  d : Byte
  e : Byte
  h : Byte
  l : Byte
  /-- `F` (R13) -/
  f : Flags
  /-- the stack pointer (R16) -/
  sp : Word
  /-- the program counter (R15) -/
  pc : Word
  /-- `IME`, the interrupt master enable (R17) -/
  ime : Bool
  /-- `ImeDelay`, 0, 1 or 2 (R18) -/
  imeDelay : Fin 3
  /-- `Halted` (R19) -/
  halted : Bool
  /-- `HaltBug` (R20) -/
  haltBug : Bool
  /-- `Clock`, cycles since reset (R21) -/
  clock : Nat
  /-- The MODEL's own field: the cycle count the last instruction reported, `cycles <- n` of R7, which
  `CpuStep` returns to `MachineStep` (R281, R305; log 3). -/
  cycles : Nat
  /-- the storage regions (R22), the I/O registers of R31 to R46 and R48 among them -/
  mem : Memory
  /-- `IE`, the interrupt-enable register at 0xFFFF (R47) -/
  ie : Byte
  /-- the cartridge's bank controller and its registers (R27) -/
  bank : BankState
  /-- `DivAcc`, cycles since the last divider increment (R24) -/
  divAcc : Nat
  /-- `TimaAcc`, cycles since the last `TIMA` increment (R24) -/
  timaAcc : Nat
  /-- the PPU's `Mode` (R25) -/
  mode : PpuMode
  /-- `LineCycles`, cycles spent in the current mode (R25) -/
  lineCycles : Nat
  /-- `FrameBuffer` (R25) -/
  frameBuffer : Frame
  /-- `Buttons` (R26) -/
  buttons : Buttons
  /-- The host's coming inputs, one value of `Buttons` a step, oldest first; while it is empty the buttons stay
  as they are (R305, R420; log 4). -/
  buttonInputs : List Buttons
  /-- the bytes passed to `SerialOut`, oldest first (R431) -/
  serialTrace : List Byte
  /-- the opcodes and addresses passed to `IllegalLog`, oldest first (R288; log 5) -/
  illegalLog : List (Byte × Word)
  /-- the frames passed to `FrameReady`, oldest first (R380; log 5) -/
  framesReady : List Frame
  /-- the sound unit's channel state (R28, R441) -/
  apu : Apu
  deriving DecidableEq, Repr

/-- A frame of 144 lines of 160 pixels of shade 0 (R454: `FrameBuffer` every entry `PALETTE[0]`). -/
def blankFrame : Frame := List.replicate 144 (List.replicate 160 0)

/-- No button held (R26). -/
def noButtons : Buttons :=
  { right := false, left := false, up := false, down := false, a := false, b := false, select := false,
    start := false }

/-- A voice at rest. R454 says only "APU channel state silent": DESIGN CHOICE, every flag is false (the DAC, repeat, sweep
overflow, envelope direction, short period, left and right routing) and every number 0 (log 11). -/
def silentChannel : Channel :=
  { lengthCounter := 0, repeats := false, dacOn := false, sweepOverflowed := false, envelopeCounter := 0,
    envelopeVolume := 0, envelopeUp := false, sweepCounter := 0, shadowFrequency := 0, waveIndex := 0,
    shortPeriod := false, phase := 0, left := false, right := false }

/-- The sound unit at reset (R454): DESIGN CHOICE, the four voices at rest and every other number 0 (log 11). -/
def silentApu : Apu :=
  { sequencerCycles := 0, sequencerStep := 0, pulse1 := silentChannel, pulse2 := silentChannel,
    wave := silentChannel, noise := silentChannel, volumeLeft := 0, volumeRight := 0,
    noiseSeed := 0 }

/-- Memory with nothing listed: every byte reads as its reset contents (R453, R456), over a cartridge image of
`romSize` bytes and `extRamSize` bytes of external RAM. -/
def blankMemory (romSize extRamSize : Nat) : Memory :=
  { romSize := romSize, extRamSize := extRamSize, rom := [], vram := [], extRam := [], wram0 := [], wram1 := [],
    oam := [], io := [], hram := [] }

/-- The reset state over given memories and bank registers: "a constant function of the image and the
parameters" (R450), with the values of R451, R452, R454; R457 names those that programs depend on, `PC`, `SP` and
`IME`. -/
def State.resetWith (mem : Memory) (bank : BankState) : State :=
  { a := 0x01, b := 0x00, c := 0x13, d := 0x00, e := 0xD8, h := 0x01, l := 0x4D
    f := { z := true, n := false, h := true, c := true }
    sp := 0xFFFE, pc := 0x0100
    ime := false, imeDelay := 0, halted := false, haltBug := false
    clock := 0, cycles := 0
    mem := mem, ie := 0x00, bank := bank
    divAcc := 0, timaAcc := 0
    mode := .oamScan, lineCycles := 0, frameBuffer := blankFrame
    buttons := noButtons, buttonInputs := []
    serialTrace := [], illegalLog := [], framesReady := []
    apu := silentApu }

/-- The machine right after reset (R49), over the blank cartridge: 32 KiB of zero bytes, so controller type 0x00,
no banking and no external RAM. The image is an argument of the spec's machine; this one is the model's choice
(log 1). `loadCartridge` gives the reset state over any image. -/
def State.reset : State := State.resetWith (blankMemory 0x8000 0) .noBanking

end Sys2Proof.Machine
end

