-- ==== Sys2Proof/Machine/Memory.lean ====
section
/-! DEFINITION. The storage regions as lists of cells in one canonical form: reading and writing one byte of a
region (R22, R61 to R64). -/

namespace Sys2Proof.Machine

/-- The reset contents of the I/O register file, by offset from 0xFF00 (R453). -/
def ioResetByte (off : Nat) : Byte :=
  match off with
  | 0x00 => 0xCF  -- P1
  | 0x04 => 0xAB  -- DIV
  | 0x07 => 0xF8  -- TAC
  | 0x0F => 0xE1  -- IF
  | 0x40 => 0x91  -- LCDC
  | 0x41 => 0x86  -- STAT
  | 0x46 => 0xFF  -- DMA
  | 0x47 => 0xFC  -- BGP
  | 0x48 => 0xFF  -- OBP0
  | 0x49 => 0xFF  -- OBP1
  | _ => 0x00     -- SB, SC, TIMA, TMA, SCY, SCX, LY, LYC, WY, WX and every other byte

/-- What a byte that is not listed reads as: the reset contents of its region (R453, R456), and zero in a
cartridge image (log 2). -/
def unlisted (r : Region) (i : Nat) : Byte :=
  match r with
  | .io => ioResetByte i
  | .rom => 0x00
  | .vram | .extRam | .wram0 | .wram1 | .oam | .hram => Config.initRam

/-- The byte listed at key `k`, or what an unlisted byte reads as. -/
def readCells (dflt : Nat → Byte) (k : Nat) : List Host.Cell → Byte
  | [] => dflt k
  | cell :: rest => if cell.1 = k then cell.2 else readCells dflt k rest

/-- The cells without those at key `k`. -/
def eraseCells (k : Nat) : List Host.Cell → List Host.Cell
  | [] => []
  | cell :: rest => if cell.1 = k then eraseCells k rest else cell :: eraseCells k rest

/-- The cells with one more, before the first that has a greater key. -/
def insertCell (k : Nat) (v : Byte) : List Host.Cell → List Host.Cell
  | [] => [(k, v)]
  | cell :: rest => if k < cell.1 then (k, v) :: cell :: rest else cell :: insertCell k v rest

/-- The cells after a write: writing what an unlisted byte reads as removes the entry. -/
def writeCells (dflt : Nat → Byte) (k : Nat) (v : Byte) (cells : List Host.Cell) : List Host.Cell :=
  if v = dflt k then eraseCells k cells else insertCell k v (eraseCells k cells)

/-- The canonical form of a region of `size` bytes: keys strictly rising and below `size`, no entry equal to what
an unlisted byte reads as. -/
abbrev CellsWf (dflt : Nat → Byte) (size : Nat) (cells : List Host.Cell) : Prop :=
  cells.Pairwise (fun x y => x.1 < y.1) ∧ ∀ cell ∈ cells, cell.1 < size ∧ cell.2 ≠ dflt cell.1

/-- The cells of a region. -/
def Memory.cells (m : Memory) : Region → List Host.Cell
  | .rom => m.rom
  | .vram => m.vram
  | .extRam => m.extRam
  | .wram0 => m.wram0
  | .wram1 => m.wram1
  | .oam => m.oam
  | .io => m.io
  | .hram => m.hram

/-- The size of a region in bytes (R22). -/
def Memory.size (m : Memory) : Region → Nat
  | .rom => m.romSize
  | .vram => 8192
  | .extRam => m.extRamSize
  | .wram0 => 4096
  | .wram1 => 4096
  | .oam => 160
  | .io => 128
  | .hram => 127

/-- The memory with the cells of one region replaced. -/
def Memory.setCells (m : Memory) (r : Region) (cells : List Host.Cell) : Memory :=
  match r with
  | .rom => { m with rom := cells }
  | .vram => { m with vram := cells }
  | .extRam => { m with extRam := cells }
  | .wram0 => { m with wram0 := cells }
  | .wram1 => { m with wram1 := cells }
  | .oam => { m with oam := cells }
  | .io => { m with io := cells }
  | .hram => { m with hram := cells }

/-- `X[i]` of R22: byte `i` of region `r`. -/
def Memory.get (m : Memory) (r : Region) (i : Nat) : Byte := readCells (unlisted r) i (m.cells r)

/-- `X[i] <- v` of R22. -/
def Memory.set (m : Memory) (r : Region) (i : Nat) (v : Byte) : Memory :=
  m.setCells r (writeCells (unlisted r) i v (m.cells r))

/-- One region of a memory is in canonical form. -/
abbrev Memory.regionWf (m : Memory) (r : Region) : Prop := CellsWf (unlisted r) (m.size r) (m.cells r)

/-- Every region is in canonical form, so that equal memories are equal data. -/
abbrev Memory.wf (m : Memory) : Prop :=
  m.regionWf .rom ∧ m.regionWf .vram ∧ m.regionWf .extRam ∧ m.regionWf .wram0 ∧ m.regionWf .wram1 ∧
    m.regionWf .oam ∧ m.regionWf .io ∧ m.regionWf .hram

end Sys2Proof.Machine
end

