-- ==== Sys2Proof/Machine/Cartridge.lean ====
section
/-! DEFINITION. The cartridge and its bank controllers (21_cartridge_mbc.md): the header, loading an image, where
an address lands in the image or in external RAM, and the writes to the bank registers. -/

namespace Sys2Proof.Machine

/-- `RomAt(off)` (R94). -/
def romAt (m : Memory) (off : Nat) : Byte := if off < m.romSize then m.get .rom off else Config.sentinel

/-- `RamAt(off)` (R95). -/
def ramAt (m : Memory) (off : Nat) : Byte := if off < m.extRamSize then m.get .extRam off else Config.sentinel

/-- `RamPut(off, v)` (R95). -/
def ramPut (m : Memory) (off : Nat) (v : Byte) : Memory := if off < m.extRamSize then m.set .extRam off v else m

/-! The header (R90): functions of the image. -/

/-- The title: the bytes from 0x134 up to the first that is zero or has bit 7 set, at most 17. -/
def headerTitle (m : Memory) : List Byte :=
  ((List.range 17).map fun i => romAt m (0x134 + i)).takeWhile fun v => v != 0 && !v.getLsbD 7

/-- The controller-type byte. -/
def headerController (m : Memory) : Byte := romAt m 0x147
/-- The ROM size code. -/
def headerRomSizeCode (m : Memory) : Byte := romAt m 0x148
/-- The RAM size code. -/
def headerRamSizeCode (m : Memory) : Byte := romAt m 0x149
/-- The region byte. -/
def headerRegion (m : Memory) : Byte := romAt m 0x14A
/-- The version byte. -/
def headerVersion (m : Memory) : Byte := romAt m 0x14C
/-- The header checksum, which the core does not verify. -/
def headerChecksum (m : Memory) : Byte := romAt m 0x14D

/-- The declared ROM size of a size code `c`, 0 to 8: `32768 << c`. The machine does not use it (R93). A code above 8 is
a free value (log 6). -/
def declaredRomSize (code : Byte) : Nat :=
  if code.toNat ≤ 8 then 32768 * 2 ^ code.toNat else Config.unlistedRomSize code

/-- The five variants with their reset values: `RamEnable = 0`, `RomBank = 1`, `RamBank = 0`, `BankMode = 0`
(R455, R457). -/
def resetMbc1 : BankState := .mbc1 { ramEnable := false, bank1 := 1, bank2 := 0, bankMode := false }
def resetMbc2 : BankState := .mbc2 { ramEnable := false, romBank := 1 }
def resetMbc3 : BankState := .mbc3 { ramEnable := false, romBank := 1, ramBank := 0 }
def resetMbc5 : BankState := .mbc5 { ramEnable := false, romBank := 1, ramBank := 0 }

/-- The table of R92: the variant of a controller-type byte, and whether it has external RAM whose size R93
gives. `none` is the load error. -/
def controllerOf (code : Byte) : Option (BankState × Bool) :=
  match code.toNat with
  | 0x00 => some (.noBanking, false)
  | 0x01 => some (resetMbc1, false)
  | 0x02 | 0x03 => some (resetMbc1, true)
  | 0x05 | 0x06 => some (resetMbc2, false)
  | 0x0F | 0x11 => some (resetMbc3, false)
  | 0x10 | 0x12 | 0x13 => some (resetMbc3, true)
  | 0x19 | 0x1C => some (resetMbc5, false)
  | 0x1A | 0x1B | 0x1D | 0x1E => some (resetMbc5, true)
  | _ => none

/-- The RAM size of a RAM size code (R93); a code outside the table is a free value (log 6). -/
def ramSizeOf (code : Byte) : Nat :=
  match code.toNat with
  | 0 => 0
  | 1 => 2048
  | 2 => 8192
  | 3 => 32768
  | 4 => 131072
  | 5 => 65536
  | _ => Config.unlistedRamSize code

/-- `EXT_RAM_SIZE` (R93): the size code's when the variant's row says so, 512 for MBC2, 0 otherwise. -/
def extRamSizeOf (bank : BankState) (hasRam : Bool) (code : Byte) : Nat :=
  match bank with
  | .mbc2 _ => 512
  | .noBanking | .mbc1 _ | .mbc3 _ | .mbc5 _ => if hasRam then ramSizeOf code else 0

/-- What R460 asks of an image: 0x150 bytes or more, a controller-type byte of R92, size codes of R93. Of an image that is
not bootable R460 says that "the machine does not exist" (`machineOf`). `loadCartridge` fails on fewer: "exactly when" the
length or the controller-type byte is at fault (R337; log 6). -/
def bootable (image : List Byte) : Bool :=
  decide (Config.minImageLength ≤ image.length) && (controllerOf (image.getD 0x147 0)).isSome &&
    decide ((image.getD 0x148 0).toNat ≤ 8) && decide ((image.getD 0x149 0).toNat ≤ 5)

/-- An image as the cells of the region `rom`: the bytes that are not zero, from offset `off` on. -/
def imageCells (off : Nat) : List Byte → List Host.Cell
  | [] => []
  | v :: rest => if v = unlisted .rom off then imageCells (off + 1) rest else (off, v) :: imageCells (off + 1) rest

/-- Construction from a cartridge image (R337, R450): the machine in its reset state, or the load failure when
the image is shorter than 0x150 bytes or its controller-type byte is not in the table of R92. -/
def loadCartridge (image : List Byte) : Host.Outcome State Fault Refusal :=
  if image.length < Config.minImageLength then .refused (.truncatedImage image.length)
  else
    let m := { blankMemory image.length 0 with rom := imageCells 0 image }
    match controllerOf (headerController m) with
    | none => .refused (.unsupportedController (headerController m))
    | some (bank, hasRam) =>
      .next (State.resetWith { m with extRamSize := extRamSizeOf bank hasRam (headerRamSizeCode m) } bank)

/-- The machine of an image, in its reset state: none where R460 says that "the machine does not exist" (log 6). The runs of
the machine start here (`Reachable`). -/
def machineOf (image : List Byte) : Option State :=
  if bootable image then
    match loadCartridge image with
    | .next s => some s
    | .fault _ | .refused _ => none
  else none

/-! Where an address lands (R99, R101, R103, R105, R107). -/

/-- The image offset of an address 0x0000 to 0x3FFF (`readLowRom`). -/
def lowRomOffset (bank : BankState) (addr : Nat) : Nat :=
  match bank with
  | .mbc1 m => (if m.bankMode then m.bank2.toNat * 32 else 0) * 0x4000 + addr
  | .noBanking | .mbc2 _ | .mbc3 _ | .mbc5 _ => addr

/-- The image offset of an address 0x4000 to 0x7FFF (`readHighRom`); the bank of MBC1 is `(Bank2 << 5) | Bank1`. -/
def highRomOffset (bank : BankState) (addr : Nat) : Nat :=
  match bank with
  | .noBanking => addr
  | .mbc1 m => (m.bank2 ++ m.bank1).toNat * 0x4000 + (addr - 0x4000)
  | .mbc2 m => m.romBank.toNat * 0x4000 + (addr - 0x4000)
  | .mbc3 m => m.romBank.toNat * 0x4000 + (addr - 0x4000)
  | .mbc5 m => m.romBank.toNat * 0x4000 + (addr - 0x4000)

/-- The external-RAM index of an address 0xA000 to 0xBFFF, or `none` while the window shows no RAM: no
controller, `RamEnable = 0` (R96), or a RAM bank of MBC3 above 3 (R105). -/
def extRamIndex (bank : BankState) (addr : Nat) : Option Nat :=
  match bank with
  | .noBanking => none
  | .mbc1 m =>
    if m.ramEnable then some ((if m.bankMode then m.bank2.toNat else 0) * 0x2000 + (addr - 0xA000)) else none
  | .mbc2 m => if m.ramEnable then some ((addr - 0xA000) % 512) else none
  | .mbc3 m =>
    if m.ramEnable ∧ m.ramBank.toNat ≤ 3 then some (m.ramBank.toNat * 0x2000 + (addr - 0xA000)) else none
  | .mbc5 m => if m.ramEnable then some (m.ramBank.toNat * 0x2000 + (addr - 0xA000)) else none

/-- How a stored byte of external RAM reads: MBC2's cells are 4 bits wide and read with the high bits 1
(R103). -/
def extRamView (bank : BankState) (v : Byte) : Byte :=
  match bank with
  | .mbc2 _ => 0xF0 ||| (v &&& 0x0F)
  | .noBanking | .mbc1 _ | .mbc3 _ | .mbc5 _ => v

/-- What a write stores in external RAM: MBC2 keeps the low 4 bits (R103). -/
def extRamStore (bank : BankState) (v : Byte) : Byte :=
  match bank with
  | .mbc2 _ => v &&& 0x0F
  | .noBanking | .mbc1 _ | .mbc3 _ | .mbc5 _ => v

/-- `readLowRom` and `readHighRom`: a read of 0x0000 to 0x7FFF (R54). -/
def readRom (m : Memory) (bank : BankState) (addr : Nat) : Byte :=
  if addr < 0x4000 then romAt m (lowRomOffset bank addr) else romAt m (highRomOffset bank addr)

/-- `readExternalRam` (R57, R96). -/
def readExternalRam (m : Memory) (bank : BankState) (addr : Nat) : Byte :=
  match extRamIndex bank addr with
  | none => Config.sentinel
  | some i => extRamView bank (ramAt m i)

/-- `writeExternalRam` (R57, R96). -/
def writeExternalRam (m : Memory) (bank : BankState) (addr : Nat) (v : Byte) : Memory :=
  match extRamIndex bank addr with
  | none => m
  | some i => ramPut m i (extRamStore bank v)

/-- `RamEnable <- ((v & 0x0F) == 0x0A)` (R96). -/
def enablesRam (v : Byte) : Bool := v &&& 0x0F == 0x0A

/-- Bank 0 is adjusted to bank 1 by MBC1, MBC2 and MBC3 (R100, R102, R104). -/
def atLeastOne (n : Nat) (b : BitVec n) : BitVec n := if b = 0 then 1 else b

/-- `writeRomRegister` of MBC1 (R100). -/
def writeMbc1 (m : Mbc1) (addr : Nat) (v : Byte) : Mbc1 :=
  if addr < 0x2000 then { m with ramEnable := enablesRam v }
  else if addr < 0x4000 then { m with bank1 := atLeastOne 5 (v.setWidth 5) }
  else if addr < 0x6000 then { m with bank2 := v.setWidth 2 }
  else { m with bankMode := v.getLsbD 0 }

/-- `writeRomRegister` of MBC2: address bit 8 selects the register (R102). -/
def writeMbc2 (m : Mbc2) (addr : Nat) (v : Byte) : Mbc2 :=
  if addr < 0x4000 then
    if addr / 256 % 2 = 0 then { m with ramEnable := enablesRam v }
    else { m with romBank := atLeastOne 4 (v.setWidth 4) }
  else m

/-- `writeRomRegister` of MBC3 (R104). -/
def writeMbc3 (m : Mbc3) (addr : Nat) (v : Byte) : Mbc3 :=
  if addr < 0x2000 then { m with ramEnable := enablesRam v }
  else if addr < 0x4000 then { m with romBank := atLeastOne 7 (v.setWidth 7) }
  else if addr < 0x6000 then { m with ramBank := v.setWidth 4 }
  else m

/-- `writeRomRegister` of MBC5 (R106): `RomBank[7:0]` and `RomBank[8]` are written apart, bank 0 stays 0. -/
def writeMbc5 (m : Mbc5) (addr : Nat) (v : Byte) : Mbc5 :=
  if addr < 0x2000 then { m with ramEnable := enablesRam v }
  else if addr < 0x3000 then { m with romBank := (m.romBank.extractLsb' 8 1 ++ v : BitVec 9) }
  else if addr < 0x4000 then { m with romBank := (v.setWidth 1 ++ m.romBank.setWidth 8 : BitVec 9) }
  else if addr < 0x6000 then { m with ramBank := v.setWidth 4 }
  else m

/-- `writeRomRegister(addr, v)`, a write to 0x0000 to 0x7FFF: it changes at most the bank registers (R55, R98,
R99). -/
def writeRomRegister (bank : BankState) (addr : Nat) (v : Byte) : BankState :=
  match bank with
  | .noBanking => .noBanking
  | .mbc1 m => .mbc1 (writeMbc1 m addr v)
  | .mbc2 m => .mbc2 (writeMbc2 m addr v)
  | .mbc3 m => .mbc3 (writeMbc3 m addr v)
  | .mbc5 m => .mbc5 (writeMbc5 m addr v)

end Sys2Proof.Machine
end

