-- ==== Sys2Proof/Machine/Ops.lean ====
section
/-! DEFINITION. The named operations over memory and registers: the I/O registers, the memory router (R50 to R66),
16-bit accesses and the stack (R70, R170), fetching an instruction (R280), raising, taking and returning from an
interrupt (R303, R310, R311, R313), and how an instruction's meaning ends. -/

namespace Sys2Proof.Machine

/-- What a meaning answers. -/
abbrev Answer := Host.Outcome State Fault Refusal

/-! The I/O registers by name (R30 to R46). -/

/-- `IO[off]` (R61). -/
def State.ioByte (s : State) (off : Nat) : Byte := s.mem.get .io off

/-- The state over another memory. -/
def State.withMem (s : State) (m : Memory) : State := { s with mem := m }

/-- The state over other bank registers. -/
def State.withBank (s : State) (bank : BankState) : State := { s with bank := bank }

/-- `IE <- v` (R47). -/
def State.setIe (s : State) (v : Byte) : State := { s with ie := v }

/-- `X[i] <- v` of R22: one byte of a region stored. -/
def State.store (s : State) (r : Region) (i : Nat) (v : Byte) : State := s.withMem (s.mem.set r i v)

/-- `IO[off] <- v`, the stored byte alone, with no side effect: how the devices write (R61). -/
def State.setIo (s : State) (off : Nat) (v : Byte) : State := s.store .io off v

/-- P1, joypad (R31). -/
def State.p1 (s : State) : Byte := s.ioByte 0x00
/-- SB, serial data (R32). -/
def State.sb (s : State) : Byte := s.ioByte 0x01
/-- SC, serial control (R33). -/
def State.sc (s : State) : Byte := s.ioByte 0x02
/-- DIV, divider (R34). -/
def State.div (s : State) : Byte := s.ioByte 0x04
/-- TIMA, timer counter (R35). -/
def State.tima (s : State) : Byte := s.ioByte 0x05
/-- TMA, timer modulo (R36). -/
def State.tma (s : State) : Byte := s.ioByte 0x06
/-- TAC, timer control (R37). -/
def State.tac (s : State) : Byte := s.ioByte 0x07
/-- IF, interrupt flags (R38). -/
def State.iflags (s : State) : Byte := s.ioByte 0x0F
/-- LCDC, LCD control (R39). -/
def State.lcdc (s : State) : Byte := s.ioByte 0x40
/-- STAT, LCD status (R40). -/
def State.stat (s : State) : Byte := s.ioByte 0x41
/-- SCY, background scroll Y (R41). -/
def State.scy (s : State) : Byte := s.ioByte 0x42
/-- SCX, background scroll X (R41). -/
def State.scx (s : State) : Byte := s.ioByte 0x43
/-- LY, current scanline (R42). -/
def State.ly (s : State) : Byte := s.ioByte 0x44
/-- LYC, scanline compare (R43). -/
def State.lyc (s : State) : Byte := s.ioByte 0x45
/-- DMA, OAM DMA trigger (R44). -/
def State.dma (s : State) : Byte := s.ioByte 0x46
/-- BGP, background palette (R45). -/
def State.bgp (s : State) : Byte := s.ioByte 0x47
/-- OBP0, sprite palette 0 (R45). -/
def State.obp0 (s : State) : Byte := s.ioByte 0x48
/-- OBP1, sprite palette 1 (R45). -/
def State.obp1 (s : State) : Byte := s.ioByte 0x49
/-- WY, window position Y (R46). -/
def State.wy (s : State) : Byte := s.ioByte 0x4A
/-- WX, window position X (R46). -/
def State.wx (s : State) : Byte := s.ioByte 0x4B

/-! The memory router (20_memory.md). -/

/-- `readByte(addr)`, the table of R51: total, and with no side effect (R52, R65). -/
def State.readByte (s : State) (addr : Word) : Byte :=
  let n := addr.toNat
  if n < 0x8000 then readRom s.mem s.bank n
  else if n < 0xA000 then s.mem.get .vram (n - 0x8000)
  else if n < 0xC000 then readExternalRam s.mem s.bank n
  else if n < 0xD000 then s.mem.get .wram0 (n - 0xC000)
  else if n < 0xE000 then s.mem.get .wram1 (n - 0xD000)
  else if n < 0xF000 then s.mem.get .wram0 (n - 0xE000)
  else if n < 0xFE00 then s.mem.get .wram1 (n - 0xF000)
  else if n < 0xFEA0 then s.mem.get .oam (n - 0xFE00)
  else if n < 0xFF00 then Config.sentinel
  else if n < 0xFF80 then s.ioByte (n - 0xFF00)
  else if n < 0xFFFF then s.mem.get .hram (n - 0xFF80)
  else s.ie

/-- One byte of OAM DMA: `OAM[i] <- readByte(((v << 8) + i) & 0xFFFF)` (R66). -/
def dmaByte (v : Byte) (s : State) (i : Nat) : State :=
  s.store .oam i (s.readByte (joinBytes v 0 + BitVec.ofNat 16 i))

/-- `OamDma(v)`: the 160 bytes in order, each read through the router (R66). -/
def oamDma (v : Byte) (s : State) : State := (List.range 160).foldl (dmaByte v) s

/-- `SerialOut(b)`: the byte joins the serial trace (R430, R431). -/
def serialOut (b : Byte) (s : State) : State := { s with serialTrace := s.serialTrace ++ [b] }

/-- Offsets of the sound registers and the wave table, 0xFF10 to 0xFF3F (R48, R442). -/
def isSoundOffset (off : Nat) : Bool := 0x10 ≤ off && off < 0x40

/-- `DivAcc <- 0` (R34). -/
def clearDivAcc (s : State) : State := { s with divAcc := 0 }

/-- The sound unit is told of a write to one of its registers (R68, R442). The noise table is "generated once at
initialization" (R441), so its seed stays. -/
def notifyApu (off : Nat) (v : Byte) (s : State) : State :=
  { s with apu := { Config.soundWrite off v s.apu with noiseSeed := s.apu.noiseSeed } }

/-- `writeIO(off, v)` (R62). A write to a sound register also notifies the sound unit (R68, R442). -/
def writeIo (s : State) (off : Nat) (v : Byte) : State :=
  if off = 0x00 then s.setIo 0x00 ((v &&& 0xF0) ||| (s.p1 &&& 0x0F))
  else if off = 0x02 then
    let t := s.setIo 0x02 v
    if v = 0x81 then serialOut t.sb t else t
  else if off = 0x04 then clearDivAcc (s.setIo 0x04 0x00)
  else if off = 0x41 then s.setIo 0x41 ((s.stat &&& 0x87) ||| (v &&& 0x78))
  else if off = 0x44 then s.setIo 0x44 0x00
  else if off = 0x46 then oamDma v (s.setIo 0x46 v)
  else if isSoundOffset off then notifyApu off v (s.setIo off v)
  else s.setIo off v

/-- `writeByte(addr, v)`, the table of R51: total (R53). -/
def State.writeByte (s : State) (addr : Word) (v : Byte) : State :=
  let n := addr.toNat
  if n < 0x8000 then s.withBank (writeRomRegister s.bank n v)
  else if n < 0xA000 then s.store .vram (n - 0x8000) v
  else if n < 0xC000 then s.withMem (writeExternalRam s.mem s.bank n v)
  else if n < 0xD000 then s.store .wram0 (n - 0xC000) v
  else if n < 0xE000 then s.store .wram1 (n - 0xD000) v
  else if n < 0xF000 then s.store .wram0 (n - 0xE000) v
  else if n < 0xFE00 then s.store .wram1 (n - 0xF000) v
  else if n < 0xFEA0 then s.store .oam (n - 0xFE00) v
  else if n < 0xFF00 then s
  else if n < 0xFF80 then writeIo s (n - 0xFF00) v
  else if n < 0xFFFF then s.store .hram (n - 0xFF80) v
  else s.setIe v

/-- `MemRead(addr, 2)`: little-endian, the second address wraps (R70). -/
def State.readWord (s : State) (addr : Word) : Word := joinBytes (s.readByte (addr + 1)) (s.readByte addr)

/-- `MemWrite(addr, 2, v)`: the low byte first (R70). -/
def State.writeWord (s : State) (addr : Word) (v : Word) : State :=
  (s.writeByte addr (lowByte v)).writeByte (addr + 1) (highByte v)

/-! The stack (R170). -/

/-- `Push16(v)`: the high byte first, at the higher address. -/
def State.push16 (s : State) (v : Word) : State :=
  let s1 := { s with sp := s.sp - 1 }
  let s2 := s1.writeByte s1.sp (highByte v)
  let s3 := { s2 with sp := s2.sp - 1 }
  s3.writeByte s3.sp (lowByte v)

/-- The word `Pop16()` yields: the low byte is at `SP`, the high byte above it. -/
def State.popped (s : State) : Word := s.readWord s.sp

/-- What `Pop16()` leaves: `SP` moved up by 2. -/
def State.afterPop (s : State) : State := { s with sp := s.sp + 2 }

/-! Fetching an instruction (R280, R7). -/

/-- `PC` after `FetchOpcode()`: under the halt bug the fetch does not advance it (R20, R280). -/
def State.pcAfterOpcode (s : State) : Word := if s.haltBug then s.pc else s.pc + 1

/-- The opcode at `PC` and the two bytes `Fetch8()` would read after it. Reading has no side effect (R65), so a
byte the instruction does not have may be read and ignored. -/
def fetchBytes (s : State) : Byte × Byte × Byte :=
  (s.readByte s.pc, s.readByte s.pcAfterOpcode, s.readByte (s.pcAfterOpcode + 1))

/-- The instruction at `PC` (R281). -/
def fetchInstr (s : State) : Instr :=
  let bs := fetchBytes s
  decodeBytes bs.1 bs.2.1 bs.2.2

/-- The state once an instruction with `operands` bytes after its opcode has been fetched: `PC` is past all of
them (R15) and the halt bug is spent (R280). -/
def State.fetched (s : State) (operands : Nat) : State :=
  { s with pc := s.pcAfterOpcode + BitVec.ofNat 16 operands, haltBug := false }

/-! How a meaning ends. -/

/-- `cycles <- n`: the count the instruction reports (R7, R130). -/
def State.reports (s : State) (n : Nat) : State := { s with cycles := n }

/-- The instruction is complete and reports `n` cycles. -/
def done (n : Nat) (s : State) : Answer := .next (s.reports n)

/-! Interrupts (60_exceptions.md). -/

/-- `RaiseIrq(i)` (R303). -/
def raiseIrq (i : Nat) (s : State) : State := s.setIo 0x0F (s.iflags ||| bitMask i)

/-- `pending`, the 5-bit value `IE & IF & 0x1F` (R304). -/
def State.pending (s : State) : Byte := s.ie &&& s.iflags &&& 0x1F

/-- "the least i in 0..4 with p[i] == 1" (R310, R312). -/
def lowestIrq (p : Byte) : Option Nat := (List.range 5).find? fun i => p.getLsbD i

/-- The vector `0x40 + 8 * i` (R301, R311). -/
def irqVector (i : Nat) : Word := BitVec.ofNat 16 (0x40 + 8 * i)

/-- `Dispatch(i)`, taking an interrupt (R311): `PC` goes on the stack and nothing else is saved, `PC` goes to the
vector, `IME` and the request bit are cleared, in that order. -/
def takeInterrupt (i : Nat) (s : State) : State :=
  let s1 := s.push16 s.pc
  let s2 := { s1 with pc := irqVector i, ime := false }
  s2.setIo 0x0F (s2.iflags &&& ~~~(bitMask i))

/-- Return from an interrupt handler, the effect of RETI after its fetch: `PC <- Pop16(); IME <- 1` (R270,
R313). Nothing else is restored. -/
def returnFromInterrupt (s : State) : State := { s.afterPop with pc := s.popped, ime := true }

/-- A halted processor moves past the HALT opcode and runs again (R310). -/
def wake (s : State) : State := if s.halted then { s with pc := s.pc + 1, halted := false } else s

/-- `InterruptCheck()` (R310): the state after it and the cycles it costs, 0 or 20. -/
def interruptCheck (s : State) : State × Nat :=
  if s.pending = 0 then (s, 0)
  else
    let t := wake s
    if t.ime then
      match lowestIrq s.pending with
      | some i => (takeInterrupt i t, 20)
      | none => (t, 0)
    else (t, 0)

/-! Placing a program from outside the machine (log 10). -/

/-- Stores a byte where a read of `addr` finds it, with no side effect; the image is lengthened if it does not
reach that far. It can store nothing in the unusable range or in a window that shows no RAM. -/
def pokeByte (s : State) (addr : Word) (v : Byte) : State :=
  let n := addr.toNat
  if n < 0x8000 then
    let off := if n < 0x4000 then lowRomOffset s.bank n else highRomOffset s.bank n
    s.withMem (({ s.mem with romSize := max s.mem.romSize (off + 1) }).set .rom off v)
  else if 0xFF00 ≤ n ∧ n < 0xFF80 then s.setIo (n - 0xFF00) v
  else s.writeByte addr v

/-- Three bytes from `addr` on. -/
def pokeBytes (s : State) (addr : Word) (bs : Byte × Byte × Byte) : State :=
  pokeByte (pokeByte (pokeByte s addr bs.1) (addr + 1) bs.2.1) (addr + 2) bs.2.2

/-- The state whose next instruction is given by three bytes: not halted, no halt bug, the bytes at `PC`; where
`PC` points at bytes that cannot hold them, `PC` is moved to the entry point 0x0100 first (log 10). -/
def placeInstr (s : State) (bs : Byte × Byte × Byte) : State :=
  let ready := { s with halted := false, haltBug := false }
  let there := pokeBytes ready ready.pc bs
  if fetchBytes there = bs then there else pokeBytes { ready with pc := 0x0100 } 0x0100 bs

end Sys2Proof.Machine
end

