-- ==== Sys2Proof/Machine/Apu.lean ====
section
/-! DEFINITION. The sound unit at the source's own level of detail (R440, R441). It writes only its own state; what
the source gives no formula for is an open function of Config (log 11). -/

namespace Sys2Proof.Machine

/-- One clock of a length counter, which stops at 0. -/
def lengthClock (ch : Channel) : Channel := { ch with lengthCounter := ch.lengthCounter - 1 }

/-- One clock of a channel's envelope: its counter and volume take open values, and nothing else changes (R441; DESIGN
CHOICE that the direction stays, log 11). -/
def envelopeClock (ch : Channel) : Channel :=
  let v := Config.envelopeClock ch
  { ch with envelopeCounter := v.counter, envelopeVolume := v.volume }

/-- One clock of a frequency sweep: its counter, shadow frequency and overflow take open values, and nothing else changes
(R441; DESIGN CHOICE, log 11). -/
def sweepClock (ch : Channel) : Channel :=
  let v := Config.sweepClock ch
  { ch with sweepCounter := v.counter, shadowFrequency := v.shadowFrequency, sweepOverflowed := v.overflowed }

/-- A change applied to each of the four channels. -/
def onChannels (f : Channel → Channel) (a : Apu) : Apu :=
  { a with pulse1 := f a.pulse1, pulse2 := f a.pulse2, wave := f a.wave, noise := f a.noise }

/-- The sequencer's length clock: "length counters every 2 steps". -/
def clockLengths (a : Apu) : Apu := if (a.sequencerStep + 1) % 2 = 0 then onChannels lengthClock a else a

/-- The sequencer's sweep clock: "frequency sweep (pulse channel 1 only) every 4 steps". -/
def clockSweep (a : Apu) : Apu :=
  if (a.sequencerStep + 1) % 4 = 0 then { a with pulse1 := sweepClock a.pulse1 } else a

/-- The sequencer's envelope clock: "envelope every 8th step". -/
def clockEnvelopes (a : Apu) : Apu :=
  if (a.sequencerStep + 1) % 8 = 0 then onChannels envelopeClock a else a

/-- One step of the sequencer, "on a repeating 8-step cycle" (R441). -/
def sequencerTick (a : Apu) : Apu :=
  let b := clockEnvelopes (clockSweep (clockLengths a))
  { b with sequencerStep := (a.sequencerStep + 1) % 8 }

/-- `n` steps of the sequencer. -/
def sequencerTicks : Nat → Apu → Apu
  | 0, a => a
  | n + 1, a => sequencerTicks n (sequencerTick a)

/-- `c` cycles of a channel's phase accumulator. How it advances is in no source: DESIGN CHOICE, it counts all cycles,
whatever the channel's frequency and state (R441; log 11). -/
def phaseClock (c : Nat) (ch : Channel) : Channel := { ch with phase := ch.phase + c }

/-- `c` cycles of the sound unit: the phase accumulators run on, then the sequencer steps at its fixed rate (R441; DESIGN
CHOICE of that order, log 11). -/
def apuAdvance (c : Nat) (a : Apu) : Apu :=
  let acc := a.sequencerCycles + c
  sequencerTicks (acc / Config.sequencerPeriod)
    { onChannels (phaseClock c) a with sequencerCycles := acc % Config.sequencerPeriod }

/-- `ApuStep(c)` (R440). -/
def apuStep (c : Nat) (s : State) : State := { s with apu := apuAdvance c s.apu }

/-! What the sound unit puts out, "on demand" (R441). The queues and the filter that fills them are outside the
model (R440, R336). -/

/-- Whether a voice sounds: "silence unless its DAC is powered, it has nonzero length or is set to repeat, and (for
pulse channels) it has not sweep-overflowed" (R441). R441 also names a "volume path" among the flags that enable a channel
and does not say what it is: DESIGN CHOICE, it is the envelope's volume, which has no flag of its own and does not take
part in this test (log 11). -/
def contributes (v : Voice) (ch : Channel) : Bool :=
  ch.dacOn && (decide (ch.lengthCounter ≠ 0) || ch.repeats) &&
    match v with
    | .pulse1 | .pulse2 => !ch.sweepOverflowed
    | .wave | .noise => true

/-- The channel of a voice. -/
def voiceChannel (a : Apu) : Voice → Channel
  | .pulse1 => a.pulse1
  | .pulse2 => a.pulse2
  | .wave => a.wave
  | .noise => a.noise

/-- The bytes of channel 3's wavetable. R48 places the wave table among 0xFF10 to 0xFF3F and no source says where:
PRESUMED 0xFF30 to 0xFF3F, the family's. R48 also says "no device reads it" of these bytes, and R442 that the write
notification is the sound unit's only input, while R440 has the sound unit read the sound registers; 90_conflicts.md does
not settle it. DESIGN CHOICE: as R440, a sample reads the wavetable from the I/O file (log 11). -/
def waveBytes (s : State) : List Byte := (List.range 16).map fun i => s.ioByte (0x30 + i)

/-- The noise sequence of channel 4: the table of the seed, of the period the channel selects (R441). -/
def noiseSequence (a : Apu) : List Bool := Config.noiseBits a.noise.shortPeriod a.noiseSeed

/-- What a voice adds to a sample. -/
def voiceSample (s : State) (v : Voice) : Int :=
  if contributes v (voiceChannel s.apu v) then
    Config.rawSample v (voiceChannel s.apu v) (waveBytes s) (noiseSequence s.apu)
  else 0

/-- The samples of the left and the right side: "summed per stereo side according to per-channel left/right routing
bits, scaled by the master left/right volume" (R441). The source has "an apparent bug" in this place, and R441 leaves open
whether to reproduce it: DESIGN CHOICE, the sum is without the bug, each routed voice adding its own sample; sums and
products are exact integers (log 11). -/
def stereoSample (s : State) : Int × Int :=
  let side (routed : Channel → Bool) : Int :=
    (([Voice.pulse1, .pulse2, .wave, .noise].filter fun v => routed (voiceChannel s.apu v)).map (voiceSample s)).sum
  (s.apu.volumeLeft * side Channel.left, s.apu.volumeRight * side Channel.right)

end Sys2Proof.Machine
end

