-- ==== Sys2Proof/Machine/Joypad.lean ====
section
/-! DEFINITION. The joypad latch and the host's inputs (R420 to R424). -/

namespace Sys2Proof.Machine

/-- A group of four buttons as an active-low nibble (R421). -/
def activeLow (b0 b1 b2 b3 : Bool) : Byte :=
  0x0F ^^^ BitVec.ofNat 8 (bitVal b0 + 2 * bitVal b1 + 4 * bitVal b2 + 8 * bitVal b3)

/-- `Dir` (R421). -/
def Buttons.directions (b : Buttons) : Byte := activeLow b.right b.left b.up b.down

/-- `Act` (R421). -/
def Buttons.actions (b : Buttons) : Byte := activeLow b.a b.b b.select b.start

/-- The nibble that the latch shows under the select bits of `p`: a group is selected by a 0 (R422). -/
def joypadNibble (p : Byte) (b : Buttons) : Byte :=
  let dir : Byte := if p.getLsbD 4 then 0x0F else b.directions
  let act : Byte := if p.getLsbD 5 then 0x0F else b.actions
  0x0F &&& dir &&& act

/-- `JoypadStep()` (R422). -/
def joypadStep (s : State) : State :=
  let n := joypadNibble s.p1 s.buttons
  let t := s.setIo 0x00 ((s.p1 &&& 0xF0) ||| n)
  if n = 0x0F then t else raiseIrq 4 t

/-- The host's change of the buttons between two steps (R305, R420; log 4). -/
def takeInput (s : State) : State :=
  match s.buttonInputs with
  | [] => s
  | now :: later => { s with buttons := now, buttonInputs := later }

end Sys2Proof.Machine
end

