-- ==== Sys2Proof/Machine/Ppu.lean ====
section
/-! DEFINITION. The picture unit (62_ppu.md): the mode sequencer and the scanline renderer. The renderer reads
VRAM, OAM and the registers and writes one line of the frame buffer (R390, R399). -/

namespace Sys2Proof.Machine

/-! The renderer. Pixel columns, lines and colour indexes are natural numbers. -/

/-- The shade a palette register gives a colour index, `pal[2*i+1 : 2*i]` (R45, R393). -/
def shadeOf (pal : Byte) (i : Nat) : Shade := BitVec.ofNat 2 (pal.toNat / 4 ^ i)

/-- `V(a)`, `VRAM[a - 0x8000]` (R390). -/
def State.vramAt (s : State) (a : Nat) : Byte := s.mem.get .vram (a - 0x8000)

/-- `OAM[i]`. -/
def State.oamAt (s : State) (i : Nat) : Byte := s.mem.get .oam i

/-- The colour index that two bit planes give column `col`, counted from the left (R391). -/
def planePixel (lo hi : Byte) (col : Nat) : Nat := 2 * bitVal (hi.getLsbD (7 - col)) + bitVal (lo.getLsbD (7 - col))

/-- `TilePixel(dataAddr, row, col)` (R391). -/
def tilePixel (s : State) (dataAddr row col : Nat) : Nat :=
  planePixel (s.vramAt (dataAddr + 2 * row)) (s.vramAt (dataAddr + 2 * row + 1)) col

/-- `TileData(idx)`: with `LCDC[4] = 0` the index is signed about 0x9000 (R391). -/
def tileData (s : State) (idx : Byte) : Nat :=
  if s.lcdc.getLsbD 4 then 0x8000 + 16 * idx.toNat
  else if idx.toNat < 128 then 0x9000 + 16 * idx.toNat
  else 0x8000 + 16 * idx.toNat

/-- The base address of a tile map, by the bit of LCDC that selects it (R391, R392). -/
def tileMapBase (selected : Bool) : Nat := if selected then 0x9C00 else 0x9800

/-- The colour index at pixel `(py, px)` of a 256 by 256 plane of tiles whose map is at `base`. -/
def planeIndex (s : State) (base py px : Nat) : Nat :=
  tilePixel s (tileData s (s.vramAt (base + 32 * (py / 8) + px / 8))) (py % 8) (px % 8)

/-- `BgIndex(ly, x)`: the background is a torus (R391). -/
def bgIndex (s : State) (ly x : Nat) : Nat :=
  planeIndex s (tileMapBase (s.lcdc.getLsbD 3)) ((ly + s.scy.toNat) % 256) ((x + s.scx.toNat) % 256)

/-- Whether the window replaces the background at a pixel (R392). -/
def windowCovers (s : State) (ly x : Nat) : Bool :=
  s.lcdc.getLsbD 5 && decide (s.wy.toNat ≤ ly) && decide (s.wx.toNat ≤ x + 7)

/-- `WinIndex(ly, x)` (R392). -/
def winIndex (s : State) (ly x : Nat) : Nat :=
  planeIndex s (tileMapBase (s.lcdc.getLsbD 6)) (ly - s.wy.toNat) (x + 7 - s.wx.toNat)

/-- `BgShade(ly, x)` (R393). -/
def bgShade (s : State) (ly x : Nat) : Shade :=
  if s.lcdc.getLsbD 0 then shadeOf s.bgp (if windowCovers s ly x then winIndex s ly x else bgIndex s ly x) else 0

/-- The height of the sprites (R394). -/
def spriteHeight (s : State) : Nat := if s.lcdc.getLsbD 2 then 16 else 8

/-- The attribute byte of sprite `n` (R394). -/
def spriteAttr (s : State) (n : Nat) : Byte := s.oamAt (4 * n + 3)

/-- Whether sprite `n` covers line `ly` and column `x`; the bounds of R394 with 16 and 8 added to both sides. -/
def spriteCovers (s : State) (ly x n : Nat) : Bool :=
  let y := (s.oamAt (4 * n)).toNat
  let left := (s.oamAt (4 * n + 1)).toNat
  decide (y ≤ ly + 16 ∧ ly + 16 < y + spriteHeight s ∧ left ≤ x + 8 ∧ x < left)

/-- The colour index of sprite `n` at a pixel it covers, after its flips; a tall sprite uses an even tile and the one
after it (R395). -/
def spriteIndex (s : State) (ly x n : Nat) : Nat :=
  let attr := spriteAttr s n
  let h := spriteHeight s
  let down := ly + 16 - (s.oamAt (4 * n)).toNat
  let across := x + 8 - (s.oamAt (4 * n + 1)).toNat
  let row := if attr.getLsbD 6 then h - 1 - down else down
  let col := if attr.getLsbD 5 then 7 - across else across
  let tile := s.oamAt (4 * n + 2)
  let first := if h = 16 then tile &&& 0xFE else tile
  tilePixel s (0x8000 + 16 * first.toNat) row col

/-- The loop of `SpritePixel` over the sprites still to try: the first with a colour other than 0 decides, also when
it is behind the background (R395, R396). -/
def spriteScan (s : State) (ly x : Nat) (bg : Shade) : List Nat → Option Shade
  | [] => none
  | n :: rest =>
    if spriteCovers s ly x n = true ∧ spriteIndex s ly x n ≠ 0 then
      let attr := spriteAttr s n
      if attr.getLsbD 7 = true ∧ bg ≠ 0 then none
      else some (shadeOf (if attr.getLsbD 4 then s.obp1 else s.obp0) (spriteIndex s ly x n))
    else spriteScan s ly x bg rest

/-- `SpritePixel(ly, x, bg)` (R395). -/
def spritePixel (s : State) (ly x : Nat) (bg : Shade) : Option Shade :=
  if s.lcdc.getLsbD 1 then spriteScan s ly x bg Config.spriteOrder else none

/-- The shade shown at a pixel: the sprite's, or the background's where there is none (R390). -/
def pixelShade (s : State) (ly x : Nat) : Shade :=
  let bg := bgShade s ly x
  (spritePixel s ly x bg).getD bg

/-- The 160 shades of line `ly` (R390). -/
def scanline (s : State) (ly : Nat) : List Shade := (List.range 160).map fun x => pixelShade s ly x

/-- `RenderLine(ly)`; a line beyond 143 has no place in the frame buffer (R390, R397; log 15). -/
def renderLine (ly : Nat) (s : State) : State := { s with frameBuffer := s.frameBuffer.set ly (scanline s ly) }

/-- The colours of a line of shades, the output of R397: `PALETTE[shade]`. -/
def lineColours (line : List Shade) : List (BitVec 32) := line.map Config.palette

/-! The sequencer. -/

/-- The two bits of a mode (R362). -/
def PpuMode.bits : PpuMode → Byte
  | .hBlank => 0
  | .vBlank => 1
  | .oamScan => 2
  | .pixelTransfer => 3

/-- The cycles after which the sequencer leaves a mode, or in V-Blank moves to the next line (R362, R375). -/
def PpuMode.duration : PpuMode → Nat
  | .hBlank => 204
  | .vBlank => 456
  | .oamScan => 80
  | .pixelTransfer => 172

/-- `SetMode(m)` (R376). -/
def setMode (m : PpuMode) (s : State) : State := { s.setIo 0x41 ((s.stat &&& 0xFC) ||| m.bits) with mode := m }

/-- `if IO[0x41][bit] == 1: RaiseIrq(1)`: the LCD-Stat interrupt of a source that STAT enables (R381, R384). -/
def raiseStat (bit : Nat) (s : State) : State := if s.stat.getLsbD bit then raiseIrq 1 s else s

/-- `CoincidenceCheck()` (R384). -/
def coincidenceCheck (s : State) : State :=
  if s.ly = s.lyc then raiseStat 6 (s.setIo 0x41 (s.stat ||| 0x04)) else s.setIo 0x41 (s.stat &&& 0xFB)

/-- `FrameReady(FrameBuffer)`: the host gets a snapshot of the frame (R336, R380). -/
def frameReady (s : State) : State := { s with framesReady := s.framesReady ++ [s.frameBuffer] }

/-- The start of OamScan of a line (R375). -/
def enterOamScan (s : State) : State := raiseStat 5 (setMode .oamScan s)

/-- The end of PixelTransfer: HBlank, and the line just finished is rendered (R375, R390). -/
def enterHBlank (s : State) : State :=
  let t := setMode .hBlank s
  raiseStat 3 (renderLine t.ly.toNat t)

/-- V-Blank entry, at line 144 (R375, R380). -/
def enterVBlank (s : State) : State := raiseStat 4 (frameReady (raiseIrq 0 (setMode .vBlank s)))

/-- The end of HBlank: the next line begins (R375, R378). -/
def endHBlank (s : State) : State :=
  let t := s.setIo 0x44 (s.ly + 1)
  coincidenceCheck (if t.ly = 144 then enterVBlank t else enterOamScan t)

/-- The end of a line of V-Blank; after line 153 the frame begins again (R375, R379). -/
def endVBlankLine (s : State) : State :=
  let t := s.setIo 0x44 (s.ly + 1)
  coincidenceCheck (if t.ly.toNat > 153 then enterOamScan (t.setIo 0x44 0) else t)

/-- What happens when the threshold of the current mode is reached (R375). -/
def leaveMode (s : State) : State :=
  match s.mode with
  | .oamScan => setMode .pixelTransfer s
  | .pixelTransfer => enterHBlank s
  | .hBlank => endHBlank s
  | .vBlank => endVBlankLine s

/-- While the LCD is disabled the sequencer is frozen at the start of line 0 (R377). -/
def frozenPpu (s : State) : State := setMode .hBlank { s.setIo 0x44 0 with lineCycles := 0 }

/-- `PpuStep(c)` (R375): at most one transition a call, the excess is carried over. -/
def ppuStep (c : Nat) (s : State) : State :=
  if s.lcdc.getLsbD 7 then
    let spent := s.lineCycles + c
    if s.mode.duration ≤ spent then leaveMode { s with lineCycles := spent - s.mode.duration }
    else { s with lineCycles := spent }
  else frozenPpu s

end Sys2Proof.Machine
end

