-- ==== Sys2Proof/Machine/Timer.lean ====
section
/-! DEFINITION. The divider and the timer (61_timer.md). The two loops of R343 are written in closed form: a count
of turns and a remainder (log 12). -/

namespace Sys2Proof.Machine

/-- `Period(TAC[1:0])` (R342). -/
def timerPeriod (tac : Byte) : Nat :=
  match tac.toNat % 4 with
  | 0 => 1024
  | 1 => 16
  | 2 => 64
  | _ => 256

/-- `TAC[2]`, the timer's enable bit (R342). -/
def timerEnabled (tac : Byte) : Bool := tac.getLsbD 2

/-- One increment of `TIMA`: on overflow it reloads from `TMA` and requests interrupt 2 (R343, R345). -/
def timaTick (s : State) : State :=
  if s.tima = 0xFF then raiseIrq 2 (s.setIo 0x05 s.tma) else s.setIo 0x05 (s.tima + 1)

/-- `n` increments of `TIMA`. -/
def timaTicks : Nat → State → State
  | 0, s => s
  | n + 1, s => timaTicks n (timaTick s)

/-- The divider's part of `TimerStep(c)`: `DIV` moves by one for every 256 cycles (R341, R343). -/
def dividerStep (c : Nat) (s : State) : State :=
  let acc := s.divAcc + c
  { s.setIo 0x04 (s.div + BitVec.ofNat 8 (acc / 256)) with divAcc := acc % 256 }

/-- The counter's part of `TimerStep(c)`: while disabled it keeps its accumulator (R343, R346). -/
def counterStep (c : Nat) (s : State) : State :=
  if timerEnabled s.tac then
    let period := timerPeriod s.tac
    let acc := s.timaAcc + c
    timaTicks (acc / period) { s with timaAcc := acc % period }
  else s

/-- `TimerStep(c)` (R343). -/
def timerStep (c : Nat) (s : State) : State := counterStep c (dividerStep c s)

end Sys2Proof.Machine
end

