-- ==== Sys2Proof/Machine/Devices.lean ====
section
/-! DEFINITION. What follows the instruction in a `MachineStep`: the delayed interrupt enable, the devices, the
interrupt check (R305 to R309). -/

namespace Sys2Proof.Machine

/-- `ImeTick()` (R306). -/
def imeTick (s : State) : State :=
  if s.imeDelay = 2 then { s with imeDelay := 1 }
  else if s.imeDelay = 1 then { s with imeDelay := 0, ime := true }
  else s

/-- `AdvanceDevices(c)` (R307). -/
def advanceDevices (c : Nat) (s : State) : State := apuStep c (joypadStep (ppuStep c (timerStep c s)))

/-- The end of a `MachineStep`: `d <- InterruptCheck()`, the devices see the cycles of a dispatch, and the clock moves
on by both counts (R305). -/
def checkInterrupts (c : Nat) (s : State) : State :=
  let checked := interruptCheck s
  let t := if checked.2 = 0 then checked.1 else advanceDevices checked.2 checked.1
  { t with clock := t.clock + c + checked.2 }

/-- All of a `MachineStep` after `CpuStep`, which reported `cycles` (R305). -/
def catchUp (s : State) : State := checkInterrupts s.cycles (advanceDevices s.cycles (imeTick s))

end Sys2Proof.Machine
end

