-- ==== Sys2Proof/Machine/Flags.lean ====
section
/-! DEFINITION. Every arithmetic and logic result with the flags it leaves (R14, R185): the eight two-operand
operations, INC and DEC, DAA, the 16-bit additions, the rotates and shifts. Carries are taken on unbounded naturals,
as the rules write them. -/

namespace Sys2Proof.Machine

/-- A result and the flags after it. -/
abbrev Flagged (w : Nat) := BitVec w × Flags

/-- `ADD` and `ADC`: `a + v + cin` (R187, R188). -/
def add8 (a v : Byte) (cin : Bool) : Flagged 8 :=
  let sum := a.toNat + v.toNat + bitVal cin
  let r := BitVec.ofNat 8 sum
  (r, { z := r == 0, n := false,
        h := decide (lowNibble a + lowNibble v + bitVal cin > 0x0F), c := decide (sum > 0xFF) })

/-- `SUB`, `SBC` and `CP`: `a - v - cin` (R189, R190, R194). -/
def sub8 (a v : Byte) (cin : Bool) : Flagged 8 :=
  let r := a - v - BitVec.ofNat 8 (bitVal cin)
  (r, { z := r == 0, n := true,
        h := decide (lowNibble a < lowNibble v + bitVal cin), c := decide (a.toNat < v.toNat + bitVal cin) })

/-- `AND`: H is set, N and C are cleared (R191). -/
def and8 (a v : Byte) : Flagged 8 :=
  let r := a &&& v
  (r, { z := r == 0, n := false, h := true, c := false })

/-- `XOR`: N, H and C are cleared (R192). -/
def xor8 (a v : Byte) : Flagged 8 :=
  let r := a ^^^ v
  (r, { z := r == 0, n := false, h := false, c := false })

/-- `OR`: N, H and C are cleared (R193). -/
def or8 (a v : Byte) : Flagged 8 :=
  let r := a ||| v
  (r, { z := r == 0, n := false, h := false, c := false })

/-- The new `A` and flags of a two-operand operation; `CP` leaves `A` as it is (R187 to R194). -/
def aluResult (op : AluOp) (a v : Byte) (f : Flags) : Flagged 8 :=
  match op with
  | .add => add8 a v false
  | .adc => add8 a v f.c
  | .sub => sub8 a v false
  | .sbc => sub8 a v f.c
  | .and => and8 a v
  | .xor => xor8 a v
  | .or => or8 a v
  | .cp => (a, (sub8 a v false).2)

/-- `INC`: C is unchanged (R201, R202). -/
def inc8 (o : Byte) (f : Flags) : Flagged 8 :=
  let r := o + 1
  (r, { z := r == 0, n := false, h := lowNibble o == 0x0F, c := f.c })

/-- `DEC`: C is unchanged (R203, R204). -/
def dec8 (o : Byte) (f : Flags) : Flagged 8 :=
  let r := o - 1
  (r, { z := r == 0, n := true, h := lowNibble o == 0x00, c := f.c })

/-- `DAA` (R205). The low-nibble test reads the operand: the first correction does not change it. -/
def daa8 (a : Byte) (f : Flags) : Flagged 8 :=
  let high := f.c || (!f.n && decide (a.toNat > 0x99))
  let low := f.h || (!f.n && decide (lowNibble a > 0x09))
  let correction : Byte := (if high then 0x60 else 0) + (if low then 0x06 else 0)
  let r := if f.n then a - correction else a + correction
  (r, { z := r == 0, n := f.n, h := false, c := high })

/-- `ADD HL,rr`: H from bit 11, C from bit 15, Z unchanged (R221). -/
def add16 (a v : Word) (f : Flags) : Flagged 16 :=
  (a + v, { z := f.z, n := false, h := decide (a.toNat % 0x1000 + v.toNat % 0x1000 > 0x0FFF),
            c := decide (a.toNat + v.toNat > 0xFFFF) })

/-- `SP + e8` of `ADD SP,e8` and `LD HL,SP+e8`: the sum takes the operand as signed, the flags take it as unsigned
and come from bits 3 and 7 of the low byte (R178, R224). -/
def addSigned (sp : Word) (e : Byte) : Flagged 16 :=
  (sp + sext16 e,
   { z := false, n := false, h := decide (sp.toNat % 0x10 + lowNibble e > 0x0F),
     c := decide (sp.toNat % 0x100 + e.toNat > 0xFF) })

/-- The result of a rotate or shift by one and the bit it puts in C; `cin` is C before (R235 to R242). -/
def rotResult (op : RotOp) (o : Byte) (cin : Bool) : Byte × Bool :=
  let b7 := o.getLsbD 7
  let b0 := o.getLsbD 0
  let low (b : Bool) : Byte := if b then 0x01 else 0x00
  let high (b : Bool) : Byte := if b then 0x80 else 0x00
  match op with
  | .rlc => (o <<< 1 ||| low b7, b7)
  | .rrc => (o >>> 1 ||| high b0, b0)
  | .rl => (o <<< 1 ||| low cin, b7)
  | .rr => (o >>> 1 ||| high cin, b0)
  | .sla => (o <<< 1, b7)
  | .sra => (o >>> 1 ||| (o &&& 0x80), b0)
  | .swap => (o <<< 4 ||| o >>> 4, false)
  | .srl => (o >>> 1, b0)

/-- A rotate or shift of the second table: Z from the result, N and H cleared (R235 to R242). -/
def rotFlagged (op : RotOp) (o : Byte) (f : Flags) : Flagged 8 :=
  let r := rotResult op o f.c
  (r.1, { z := r.1 == 0, n := false, h := false, c := r.2 })

/-- A rotate of `A` in the base table: Z is cleared whatever the result (R231 to R234). -/
def rotAFlagged (op : RotOp) (a : Byte) (f : Flags) : Flagged 8 :=
  let r := rotResult op a f.c
  (r.1, { z := false, n := false, h := false, c := r.2 })

/-- The flags of `BIT b`: Z is the complement of the tested bit, C is unchanged (R243). -/
def bitFlags (b : Nat) (o : Byte) (f : Flags) : Flags := { z := !o.getLsbD b, n := false, h := true, c := f.c }

end Sys2Proof.Machine
end

