-- ==== Sys2Proof/Machine/Operands.lean ====
section
/-! DEFINITION. The operand forms: the 8-bit operand table with `(HL)`, the 16-bit pairs as views of their halves,
the stack pairs, the conditions (R11, R123 to R127, R260). -/

namespace Sys2Proof.Machine

/-- `F` as the byte PUSH AF stores: Z, N, H, C in bits 7 to 4, zeros below (R12, R13). -/
def Flags.toByte (f : Flags) : Byte :=
  BitVec.ofNat 8 (128 * bitVal f.z + 64 * bitVal f.n + 32 * bitVal f.h + 16 * bitVal f.c)

/-- The flags in bits 7 to 4 of a byte; bits 3 to 0 are discarded (R12, R177). -/
def flagsOfByte (v : Byte) : Flags :=
  { z := v.getLsbD 7, n := v.getLsbD 6, h := v.getLsbD 5, c := v.getLsbD 4 }

/-- Reading a register of the table `r[i]` (R123). -/
def State.reg (s : State) : Reg8 → Byte
  | .b => s.b
  | .c => s.c
  | .d => s.d
  | .e => s.e
  | .h => s.h
  | .l => s.l
  | .a => s.a

/-- Writing a register of the table `r[i]` (R123). -/
def State.setReg (s : State) (r : Reg8) (v : Byte) : State :=
  match r with
  | .b => { s with b := v }
  | .c => { s with c := v }
  | .d => { s with d := v }
  | .e => { s with e := v }
  | .h => { s with h := v }
  | .l => { s with l := v }
  | .a => { s with a := v }

/-- `BC`, `DE`, `HL` as views of their halves, the first-named register high (R11). -/
def State.bc (s : State) : Word := joinBytes s.b s.c
def State.de (s : State) : Word := joinBytes s.d s.e
def State.hl (s : State) : Word := joinBytes s.h s.l

/-- `AF = A ++ F` (R11). -/
def State.af (s : State) : Word := joinBytes s.a s.f.toByte

/-- Writing a pair writes its halves (R11). -/
def State.setBC (s : State) (v : Word) : State := { s with b := highByte v, c := lowByte v }
def State.setDE (s : State) (v : Word) : State := { s with d := highByte v, e := lowByte v }
def State.setHL (s : State) (v : Word) : State := { s with h := highByte v, l := lowByte v }

/-- Writing `AF` keeps `F[3:0] = 0` (R11, R12). -/
def State.setAF (s : State) (v : Word) : State := { s with a := highByte v, f := flagsOfByte (lowByte v) }

/-- Reading `rr[p]` (R124). -/
def State.reg16 (s : State) : Reg16 → Word
  | .bc => s.bc
  | .de => s.de
  | .hl => s.hl
  | .sp => s.sp

/-- Writing `rr[p]` (R124). -/
def State.setReg16 (s : State) (r : Reg16) (v : Word) : State :=
  match r with
  | .bc => s.setBC v
  | .de => s.setDE v
  | .hl => s.setHL v
  | .sp => { s with sp := v }

/-- Reading `rr2[p]` (R125). -/
def State.stackReg (s : State) : StackReg → Word
  | .bc => s.bc
  | .de => s.de
  | .hl => s.hl
  | .af => s.af

/-- Writing `rr2[p]` (R125). -/
def State.setStackReg (s : State) (r : StackReg) (v : Word) : State :=
  match r with
  | .bc => s.setBC v
  | .de => s.setDE v
  | .hl => s.setHL v
  | .af => s.setAF v

/-- Reading the operand `r[i]`: a register, or the byte at `HL` (R123). -/
def State.operand (s : State) : Operand8 → Byte
  | .reg r => s.reg r
  | .indHL => s.readByte s.hl

/-- Writing the operand `r[i]`: a register, or the byte at `HL` (R123). -/
def State.setOperand (s : State) (o : Operand8) (v : Byte) : State :=
  match o with
  | .reg r => s.setReg r v
  | .indHL => s.writeByte s.hl v

/-- The address `0xFF00 + v` of `LDH` and `LD (C)` (R127, R150 to R153). -/
def highPage (v : Byte) : Word := 0xFF00 + zext16 v

/-- `cond(cc)` (R260). -/
def condHolds (cc : Cond) (f : Flags) : Bool :=
  match cc with
  | .nz => !f.z
  | .z => f.z
  | .nc => !f.c
  | .c => f.c

end Sys2Proof.Machine
end

