-- ==== Sys2Proof/Machine/Alu16.lean ====
section
/-! DEFINITION. The 16-bit arithmetic instructions (43_alu16.md). -/

namespace Sys2Proof.Machine

/-- `HL <- HL + rr[p]` with the flags of bits 11 and 15 (R221). -/
def addToHL (p : Reg16) (s : State) : Answer :=
  let t := s.fetched 0
  let r := add16 t.hl (t.reg16 p) t.f
  done 8 ({ t with f := r.2 }.setHL r.1)

/-- `rr[p] <- rr[p] + 1`, no flag changes (R222). -/
def incPair (p : Reg16) (s : State) : Answer :=
  let t := s.fetched 0
  done 8 (t.setReg16 p (t.reg16 p + 1))

/-- `rr[p] <- rr[p] - 1`, no flag changes (R223). -/
def decPair (p : Reg16) (s : State) : Answer :=
  let t := s.fetched 0
  done 8 (t.setReg16 p (t.reg16 p - 1))

/-- `INC BC` (R222). -/
def execIncBC (s : State) : Answer := incPair .bc s

/-- `ADD HL,BC` (R221). -/
def execAddHLBC (s : State) : Answer := addToHL .bc s

/-- `DEC BC` (R223). -/
def execDecBC (s : State) : Answer := decPair .bc s

/-- `INC DE` (R222). -/
def execIncDE (s : State) : Answer := incPair .de s

/-- `ADD HL,DE` (R221). -/
def execAddHLDE (s : State) : Answer := addToHL .de s

/-- `DEC DE` (R223). -/
def execDecDE (s : State) : Answer := decPair .de s

/-- `INC HL` (R222). -/
def execIncHL (s : State) : Answer := incPair .hl s

/-- `ADD HL,HL` (R221). -/
def execAddHLHL (s : State) : Answer := addToHL .hl s

/-- `DEC HL` (R223). -/
def execDecHL (s : State) : Answer := decPair .hl s

/-- `INC SP` (R222). -/
def execIncSP (s : State) : Answer := incPair .sp s

/-- `ADD HL,SP` (R221). -/
def execAddHLSP (s : State) : Answer := addToHL .sp s

/-- `DEC SP` (R223). -/
def execDecSP (s : State) : Answer := decPair .sp s

/-- `ADD SP,e8` (R224). -/
def execAddSPE8 (e : Byte) (s : State) : Answer :=
  let t := s.fetched 1
  let r := addSigned t.sp e
  done 16 { t with f := r.2, sp := r.1 }

end Sys2Proof.Machine
end

