-- ==== Sys2Proof/Machine/Alu8.lean ====
section
/-! DEFINITION. The 8-bit arithmetic and logic instructions (42_alu8.md). -/

namespace Sys2Proof.Machine

/-- One of the eight operations on `A` and the operand value `v`, in a state whose fetch is done (R186). -/
def aluOnA (op : AluOp) (v : Byte) (t : State) : State :=
  let r := aluResult op t.a v t.f
  { t with a := r.1, f := r.2 }

/-- The operation on a register, 4 cycles, or on `(HL)`, 8 cycles (R186). -/
def aluOperand (op : AluOp) (o : Operand8) (s : State) : Answer :=
  let t := s.fetched 0
  done (if o = .indHL then 8 else 4) (aluOnA op (t.operand o) t)

/-- The operation on the immediate byte (R186). -/
def aluImmediate (op : AluOp) (n : Byte) (s : State) : Answer := done 8 (aluOnA op n (s.fetched 1))

/-- `INC r` and `INC (HL)`: the flags come from the value read (R201, R202). -/
def incOperand (o : Operand8) (s : State) : Answer :=
  let t := s.fetched 0
  let r := inc8 (t.operand o) t.f
  done (if o = .indHL then 12 else 4) ({ t with f := r.2 }.setOperand o r.1)

/-- `DEC r` and `DEC (HL)`: the flags come from the value read (R203, R204). -/
def decOperand (o : Operand8) (s : State) : Answer :=
  let t := s.fetched 0
  let r := dec8 (t.operand o) t.f
  done (if o = .indHL then 12 else 4) ({ t with f := r.2 }.setOperand o r.1)

/-- `INC B` (R201). -/
def execIncB (s : State) : Answer := incOperand (.reg .b) s

/-- `DEC B` (R203). -/
def execDecB (s : State) : Answer := decOperand (.reg .b) s

/-- `INC C` (R201). -/
def execIncC (s : State) : Answer := incOperand (.reg .c) s

/-- `DEC C` (R203). -/
def execDecC (s : State) : Answer := decOperand (.reg .c) s

/-- `INC D` (R201). -/
def execIncD (s : State) : Answer := incOperand (.reg .d) s

/-- `DEC D` (R203). -/
def execDecD (s : State) : Answer := decOperand (.reg .d) s

/-- `INC E` (R201). -/
def execIncE (s : State) : Answer := incOperand (.reg .e) s

/-- `DEC E` (R203). -/
def execDecE (s : State) : Answer := decOperand (.reg .e) s

/-- `INC H` (R201). -/
def execIncH (s : State) : Answer := incOperand (.reg .h) s

/-- `DEC H` (R203). -/
def execDecH (s : State) : Answer := decOperand (.reg .h) s

/-- `DAA` (R205). -/
def execDaa (s : State) : Answer :=
  let t := s.fetched 0
  let r := daa8 t.a t.f
  done 4 { t with a := r.1, f := r.2 }

/-- `INC L` (R201). -/
def execIncL (s : State) : Answer := incOperand (.reg .l) s

/-- `DEC L` (R203). -/
def execDecL (s : State) : Answer := decOperand (.reg .l) s

/-- `CPL` (R206). -/
def execCpl (s : State) : Answer :=
  let t := s.fetched 0
  done 4 { t with a := t.a ^^^ 0xFF, f := { t.f with n := true, h := true } }

/-- `INC (HL)` (R202). -/
def execIncIndHL (s : State) : Answer := incOperand .indHL s

/-- `DEC (HL)` (R204). -/
def execDecIndHL (s : State) : Answer := decOperand .indHL s

/-- `SCF` (R207). -/
def execScf (s : State) : Answer :=
  let t := s.fetched 0
  done 4 { t with f := { t.f with n := false, h := false, c := true } }

/-- `INC A` (R201). -/
def execIncA (s : State) : Answer := incOperand (.reg .a) s

/-- `DEC A` (R203). -/
def execDecA (s : State) : Answer := decOperand (.reg .a) s

/-- `CCF` (R208). -/
def execCcf (s : State) : Answer :=
  let t := s.fetched 0
  done 4 { t with f := { t.f with n := false, h := false, c := !t.f.c } }

/-- `ADD A,B` (R187). -/
def execAddAB (s : State) : Answer := aluOperand .add (.reg .b) s

/-- `ADD A,C` (R187). -/
def execAddAC (s : State) : Answer := aluOperand .add (.reg .c) s

/-- `ADD A,D` (R187). -/
def execAddAD (s : State) : Answer := aluOperand .add (.reg .d) s

/-- `ADD A,E` (R187). -/
def execAddAE (s : State) : Answer := aluOperand .add (.reg .e) s

/-- `ADD A,H` (R187). -/
def execAddAH (s : State) : Answer := aluOperand .add (.reg .h) s

/-- `ADD A,L` (R187). -/
def execAddAL (s : State) : Answer := aluOperand .add (.reg .l) s

/-- `ADD A,(HL)` (R187). -/
def execAddAIndHL (s : State) : Answer := aluOperand .add .indHL s

/-- `ADD A,A` (R187). -/
def execAddAA (s : State) : Answer := aluOperand .add (.reg .a) s

/-- `ADC A,B` (R188). -/
def execAdcAB (s : State) : Answer := aluOperand .adc (.reg .b) s

/-- `ADC A,C` (R188). -/
def execAdcAC (s : State) : Answer := aluOperand .adc (.reg .c) s

/-- `ADC A,D` (R188). -/
def execAdcAD (s : State) : Answer := aluOperand .adc (.reg .d) s

/-- `ADC A,E` (R188). -/
def execAdcAE (s : State) : Answer := aluOperand .adc (.reg .e) s

/-- `ADC A,H` (R188). -/
def execAdcAH (s : State) : Answer := aluOperand .adc (.reg .h) s

/-- `ADC A,L` (R188). -/
def execAdcAL (s : State) : Answer := aluOperand .adc (.reg .l) s

/-- `ADC A,(HL)` (R188). -/
def execAdcAIndHL (s : State) : Answer := aluOperand .adc .indHL s

/-- `ADC A,A` (R188). -/
def execAdcAA (s : State) : Answer := aluOperand .adc (.reg .a) s

/-- `SUB B` (R189). -/
def execSubB (s : State) : Answer := aluOperand .sub (.reg .b) s

/-- `SUB C` (R189). -/
def execSubC (s : State) : Answer := aluOperand .sub (.reg .c) s

/-- `SUB D` (R189). -/
def execSubD (s : State) : Answer := aluOperand .sub (.reg .d) s

/-- `SUB E` (R189). -/
def execSubE (s : State) : Answer := aluOperand .sub (.reg .e) s

/-- `SUB H` (R189). -/
def execSubH (s : State) : Answer := aluOperand .sub (.reg .h) s

/-- `SUB L` (R189). -/
def execSubL (s : State) : Answer := aluOperand .sub (.reg .l) s

/-- `SUB (HL)` (R189). -/
def execSubIndHL (s : State) : Answer := aluOperand .sub .indHL s

/-- `SUB A` (R189). -/
def execSubA (s : State) : Answer := aluOperand .sub (.reg .a) s

/-- `SBC A,B` (R190). -/
def execSbcAB (s : State) : Answer := aluOperand .sbc (.reg .b) s

/-- `SBC A,C` (R190). -/
def execSbcAC (s : State) : Answer := aluOperand .sbc (.reg .c) s

/-- `SBC A,D` (R190). -/
def execSbcAD (s : State) : Answer := aluOperand .sbc (.reg .d) s

/-- `SBC A,E` (R190). -/
def execSbcAE (s : State) : Answer := aluOperand .sbc (.reg .e) s

/-- `SBC A,H` (R190). -/
def execSbcAH (s : State) : Answer := aluOperand .sbc (.reg .h) s

/-- `SBC A,L` (R190). -/
def execSbcAL (s : State) : Answer := aluOperand .sbc (.reg .l) s

/-- `SBC A,(HL)` (R190). -/
def execSbcAIndHL (s : State) : Answer := aluOperand .sbc .indHL s

/-- `SBC A,A` (R190). -/
def execSbcAA (s : State) : Answer := aluOperand .sbc (.reg .a) s

/-- `AND B` (R191). -/
def execAndB (s : State) : Answer := aluOperand .and (.reg .b) s

/-- `AND C` (R191). -/
def execAndC (s : State) : Answer := aluOperand .and (.reg .c) s

/-- `AND D` (R191). -/
def execAndD (s : State) : Answer := aluOperand .and (.reg .d) s

/-- `AND E` (R191). -/
def execAndE (s : State) : Answer := aluOperand .and (.reg .e) s

/-- `AND H` (R191). -/
def execAndH (s : State) : Answer := aluOperand .and (.reg .h) s

/-- `AND L` (R191). -/
def execAndL (s : State) : Answer := aluOperand .and (.reg .l) s

/-- `AND (HL)` (R191). -/
def execAndIndHL (s : State) : Answer := aluOperand .and .indHL s

/-- `AND A` (R191). -/
def execAndA (s : State) : Answer := aluOperand .and (.reg .a) s

/-- `XOR B` (R192). -/
def execXorB (s : State) : Answer := aluOperand .xor (.reg .b) s

/-- `XOR C` (R192). -/
def execXorC (s : State) : Answer := aluOperand .xor (.reg .c) s

/-- `XOR D` (R192). -/
def execXorD (s : State) : Answer := aluOperand .xor (.reg .d) s

/-- `XOR E` (R192). -/
def execXorE (s : State) : Answer := aluOperand .xor (.reg .e) s

/-- `XOR H` (R192). -/
def execXorH (s : State) : Answer := aluOperand .xor (.reg .h) s

/-- `XOR L` (R192). -/
def execXorL (s : State) : Answer := aluOperand .xor (.reg .l) s

/-- `XOR (HL)` (R192). -/
def execXorIndHL (s : State) : Answer := aluOperand .xor .indHL s

/-- `XOR A` (R192). -/
def execXorA (s : State) : Answer := aluOperand .xor (.reg .a) s

/-- `OR B` (R193). -/
def execOrB (s : State) : Answer := aluOperand .or (.reg .b) s

/-- `OR C` (R193). -/
def execOrC (s : State) : Answer := aluOperand .or (.reg .c) s

/-- `OR D` (R193). -/
def execOrD (s : State) : Answer := aluOperand .or (.reg .d) s

/-- `OR E` (R193). -/
def execOrE (s : State) : Answer := aluOperand .or (.reg .e) s

/-- `OR H` (R193). -/
def execOrH (s : State) : Answer := aluOperand .or (.reg .h) s

/-- `OR L` (R193). -/
def execOrL (s : State) : Answer := aluOperand .or (.reg .l) s

/-- `OR (HL)` (R193). -/
def execOrIndHL (s : State) : Answer := aluOperand .or .indHL s

/-- `OR A` (R193). -/
def execOrA (s : State) : Answer := aluOperand .or (.reg .a) s

/-- `CP B` (R194). -/
def execCpB (s : State) : Answer := aluOperand .cp (.reg .b) s

/-- `CP C` (R194). -/
def execCpC (s : State) : Answer := aluOperand .cp (.reg .c) s

/-- `CP D` (R194). -/
def execCpD (s : State) : Answer := aluOperand .cp (.reg .d) s

/-- `CP E` (R194). -/
def execCpE (s : State) : Answer := aluOperand .cp (.reg .e) s

/-- `CP H` (R194). -/
def execCpH (s : State) : Answer := aluOperand .cp (.reg .h) s

/-- `CP L` (R194). -/
def execCpL (s : State) : Answer := aluOperand .cp (.reg .l) s

/-- `CP (HL)` (R194). -/
def execCpIndHL (s : State) : Answer := aluOperand .cp .indHL s

/-- `CP A` (R194). -/
def execCpA (s : State) : Answer := aluOperand .cp (.reg .a) s

/-- `ADD A,n8` (R187). -/
def execAddAN8 (n : Byte) (s : State) : Answer := aluImmediate .add n s

/-- `ADC A,n8` (R188). -/
def execAdcAN8 (n : Byte) (s : State) : Answer := aluImmediate .adc n s

/-- `SUB n8` (R189). -/
def execSubN8 (n : Byte) (s : State) : Answer := aluImmediate .sub n s

/-- `SBC A,n8` (R190). -/
def execSbcAN8 (n : Byte) (s : State) : Answer := aluImmediate .sbc n s

/-- `AND n8` (R191). -/
def execAndN8 (n : Byte) (s : State) : Answer := aluImmediate .and n s

/-- `XOR n8` (R192). -/
def execXorN8 (n : Byte) (s : State) : Answer := aluImmediate .xor n s

/-- `OR n8` (R193). -/
def execOrN8 (n : Byte) (s : State) : Answer := aluImmediate .or n s

/-- `CP n8` (R194). -/
def execCpN8 (n : Byte) (s : State) : Answer := aluImmediate .cp n s

end Sys2Proof.Machine
end

