-- ==== Sys2Proof/Machine/Control.lean ====
section
/-! DEFINITION. Jumps, calls, returns and restarts (45_control_transfer.md). No flag changes (R260); the operand
bytes are fetched before the condition is tested (R271). -/

namespace Sys2Proof.Machine

/-- `PC <- addr`. -/
def jumpTo (addr : Word) (t : State) : State := { t with pc := addr }

/-- `PC <- PC + sext_16(e)`, from the address after the instruction (R264). -/
def jumpBy (e : Byte) (t : State) : State := jumpTo (t.pc + sext16 e) t

/-- `Push16(PC); PC <- addr` (R266, R273). -/
def callTo (addr : Word) (t : State) : State := jumpTo addr (t.push16 t.pc)

/-- `PC <- Pop16()` (R268). -/
def returnTo (t : State) : State := jumpTo t.popped t.afterPop

/-- `JP cc,a16`: 16 cycles taken, 12 not taken (R262). -/
def jumpCond (cc : Cond) (addr : Word) (s : State) : Answer :=
  let t := s.fetched 2
  if condHolds cc t.f then done 16 (jumpTo addr t) else done 12 t

/-- `JR cc,e8`: 12 cycles taken, 8 not taken (R265). -/
def jumpRelCond (cc : Cond) (e : Byte) (s : State) : Answer :=
  let t := s.fetched 1
  if condHolds cc t.f then done 12 (jumpBy e t) else done 8 t

/-- `CALL cc,a16`: 24 cycles taken, 12 not taken (R267). -/
def callCond (cc : Cond) (addr : Word) (s : State) : Answer :=
  let t := s.fetched 2
  if condHolds cc t.f then done 24 (callTo addr t) else done 12 t

/-- `RET cc`: 20 cycles taken, 8 not taken (R269). -/
def retCond (cc : Cond) (s : State) : Answer :=
  let t := s.fetched 0
  if condHolds cc t.f then done 20 (returnTo t) else done 8 t

/-- `RST t` with `t = 8 * y` (R273). -/
def restartAt (target : Word) (s : State) : Answer := done 16 (callTo target (s.fetched 0))

/-- `JR e8` (R264). -/
def execJrE8 (e : Byte) (s : State) : Answer := done 12 (jumpBy e (s.fetched 1))

/-- `JR NZ,e8` (R265). -/
def execJrNZE8 (e : Byte) (s : State) : Answer := jumpRelCond .nz e s

/-- `JR Z,e8` (R265). -/
def execJrZE8 (e : Byte) (s : State) : Answer := jumpRelCond .z e s

/-- `JR NC,e8` (R265). -/
def execJrNCE8 (e : Byte) (s : State) : Answer := jumpRelCond .nc e s

/-- `JR C,e8` (R265). -/
def execJrCE8 (e : Byte) (s : State) : Answer := jumpRelCond .c e s

/-- `RET NZ` (R269). -/
def execRetNZ (s : State) : Answer := retCond .nz s

/-- `JP NZ,a16` (R262). -/
def execJpNZA16 (addr : Word) (s : State) : Answer := jumpCond .nz addr s

/-- `JP a16` (R261). -/
def execJpA16 (addr : Word) (s : State) : Answer := done 16 (jumpTo addr (s.fetched 2))

/-- `CALL NZ,a16` (R267). -/
def execCallNZA16 (addr : Word) (s : State) : Answer := callCond .nz addr s

/-- `RST 0x00` (R273). -/
def execRst00 (s : State) : Answer := restartAt 0x00 s

/-- `RET Z` (R269). -/
def execRetZ (s : State) : Answer := retCond .z s

/-- `RET` (R268). -/
def execRet (s : State) : Answer := done 16 (returnTo (s.fetched 0))

/-- `JP Z,a16` (R262). -/
def execJpZA16 (addr : Word) (s : State) : Answer := jumpCond .z addr s

/-- `CALL Z,a16` (R267). -/
def execCallZA16 (addr : Word) (s : State) : Answer := callCond .z addr s

/-- `CALL a16` (R266). -/
def execCallA16 (addr : Word) (s : State) : Answer := done 24 (callTo addr (s.fetched 2))

/-- `RST 0x08` (R273). -/
def execRst08 (s : State) : Answer := restartAt 0x08 s

/-- `RET NC` (R269). -/
def execRetNC (s : State) : Answer := retCond .nc s

/-- `JP NC,a16` (R262). -/
def execJpNCA16 (addr : Word) (s : State) : Answer := jumpCond .nc addr s

/-- `CALL NC,a16` (R267). -/
def execCallNCA16 (addr : Word) (s : State) : Answer := callCond .nc addr s

/-- `RST 0x10` (R273). -/
def execRst10 (s : State) : Answer := restartAt 0x10 s

/-- `RET C` (R269). -/
def execRetC (s : State) : Answer := retCond .c s

/-- `RETI` (R270). `IME` is set at once. -/
def execReti (s : State) : Answer := done 16 (returnFromInterrupt (s.fetched 0))

/-- `JP C,a16` (R262). -/
def execJpCA16 (addr : Word) (s : State) : Answer := jumpCond .c addr s

/-- `CALL C,a16` (R267). -/
def execCallCA16 (addr : Word) (s : State) : Answer := callCond .c addr s

/-- `RST 0x18` (R273). -/
def execRst18 (s : State) : Answer := restartAt 0x18 s

/-- `RST 0x20` (R273). -/
def execRst20 (s : State) : Answer := restartAt 0x20 s

/-- `JP HL` (R263). -/
def execJpHL (s : State) : Answer := done 4 (jumpTo s.hl (s.fetched 0))

/-- `RST 0x28` (R273). -/
def execRst28 (s : State) : Answer := restartAt 0x28 s

/-- `RST 0x30` (R273). -/
def execRst30 (s : State) : Answer := restartAt 0x30 s

/-- `RST 0x38` (R273). -/
def execRst38 (s : State) : Answer := restartAt 0x38 s

end Sys2Proof.Machine
end

