-- ==== Sys2Proof/Machine/RotBit.lean ====
section
/-! DEFINITION. The rotates, shifts and bit instructions, and the second table as a whole
(44_rotate_shift_bit.md, R287). -/

namespace Sys2Proof.Machine

/-- A rotate of `A` in the base table (R231 to R234). -/
def rotateA (op : RotOp) (s : State) : Answer :=
  let t := s.fetched 0
  let r := rotAFlagged op t.a t.f
  done 4 { t with a := r.1, f := r.2 }

/-- A rotate or shift of the second table: the result is written back to the operand, also when it equals what was
read (R230, R235 to R242). -/
def rotateOperand (op : RotOp) (o : Operand8) (s : State) : Answer :=
  let t := s.fetched 1
  let r := rotFlagged op (t.operand o) t.f
  done (if o = .indHL then 16 else 8) ({ t with f := r.2 }.setOperand o r.1)

/-- `BIT b`: the operand is not written (R243). -/
def testBitOperand (b : Nat) (o : Operand8) (s : State) : Answer :=
  let t := s.fetched 1
  done (if o = .indHL then 12 else 8) { t with f := bitFlags b (t.operand o) t.f }

/-- `RES b`: `v <- o & ~(1 << b)` (R244). -/
def resetBitOperand (b : Nat) (o : Operand8) (s : State) : Answer :=
  let t := s.fetched 1
  done (if o = .indHL then 16 else 8) (t.setOperand o (t.operand o &&& ~~~(bitMask b)))

/-- `SET b`: `v <- o | (1 << b)` (R245). -/
def setBitOperand (b : Nat) (o : Operand8) (s : State) : Answer :=
  let t := s.fetched 1
  done (if o = .indHL then 16 else 8) (t.setOperand o (t.operand o ||| bitMask b))

/-- The operand table by its field (R123). -/
def operandOfField (z : Nat) : Operand8 :=
  match z with
  | 0 => .reg .b | 1 => .reg .c | 2 => .reg .d | 3 => .reg .e | 4 => .reg .h | 5 => .reg .l | 6 => .indHL
  | _ => .reg .a

/-- The rotate and shift field of the second table (R126). -/
def rotOfField (y : Nat) : RotOp :=
  match y with
  | 0 => .rlc | 1 => .rrc | 2 => .rl | 3 => .rr | 4 => .sla | 5 => .sra | 6 => .swap
  | _ => .srl

/-- The entry of the second table for the byte after the prefix, by its fields `x`, `y`, `z` (R129, R230). -/
def secondTable (op : Byte) (s : State) : Answer :=
  let o := operandOfField (fieldZ op)
  match fieldX op with
  | 0 => rotateOperand (rotOfField (fieldY op)) o s
  | 1 => testBitOperand (fieldY op) o s
  | 2 => resetBitOperand (fieldY op) o s
  | _ => setBitOperand (fieldY op) o s

/-- `RLCA` (R231). -/
def execRlca (s : State) : Answer := rotateA .rlc s

/-- `RRCA` (R232). -/
def execRrca (s : State) : Answer := rotateA .rrc s

/-- `RLA` (R233). -/
def execRla (s : State) : Answer := rotateA .rl s

/-- `RRA` (R234). -/
def execRra (s : State) : Answer := rotateA .rr s

/-- `RLC B` (R235). -/
def execRlcB (s : State) : Answer := rotateOperand .rlc (.reg .b) s

/-- `RLC C` (R235). -/
def execRlcC (s : State) : Answer := rotateOperand .rlc (.reg .c) s

/-- `RLC D` (R235). -/
def execRlcD (s : State) : Answer := rotateOperand .rlc (.reg .d) s

/-- `RLC E` (R235). -/
def execRlcE (s : State) : Answer := rotateOperand .rlc (.reg .e) s

/-- `RLC H` (R235). -/
def execRlcH (s : State) : Answer := rotateOperand .rlc (.reg .h) s

/-- `RLC L` (R235). -/
def execRlcL (s : State) : Answer := rotateOperand .rlc (.reg .l) s

/-- `RLC (HL)` (R235). -/
def execRlcIndHL (s : State) : Answer := rotateOperand .rlc .indHL s

/-- `RLC A` (R235). -/
def execRlcA (s : State) : Answer := rotateOperand .rlc (.reg .a) s

/-- `RRC B` (R236). -/
def execRrcB (s : State) : Answer := rotateOperand .rrc (.reg .b) s

/-- `RRC C` (R236). -/
def execRrcC (s : State) : Answer := rotateOperand .rrc (.reg .c) s

/-- `RRC D` (R236). -/
def execRrcD (s : State) : Answer := rotateOperand .rrc (.reg .d) s

/-- `RRC E` (R236). -/
def execRrcE (s : State) : Answer := rotateOperand .rrc (.reg .e) s

/-- `RRC H` (R236). -/
def execRrcH (s : State) : Answer := rotateOperand .rrc (.reg .h) s

/-- `RRC L` (R236). -/
def execRrcL (s : State) : Answer := rotateOperand .rrc (.reg .l) s

/-- `RRC (HL)` (R236). -/
def execRrcIndHL (s : State) : Answer := rotateOperand .rrc .indHL s

/-- `RRC A` (R236). -/
def execRrcA (s : State) : Answer := rotateOperand .rrc (.reg .a) s

/-- `RL B` (R237). -/
def execRlB (s : State) : Answer := rotateOperand .rl (.reg .b) s

/-- `RL C` (R237). -/
def execRlC (s : State) : Answer := rotateOperand .rl (.reg .c) s

/-- `RL D` (R237). -/
def execRlD (s : State) : Answer := rotateOperand .rl (.reg .d) s

/-- `RL E` (R237). -/
def execRlE (s : State) : Answer := rotateOperand .rl (.reg .e) s

/-- `RL H` (R237). -/
def execRlH (s : State) : Answer := rotateOperand .rl (.reg .h) s

/-- `RL L` (R237). -/
def execRlL (s : State) : Answer := rotateOperand .rl (.reg .l) s

/-- `RL (HL)` (R237). -/
def execRlIndHL (s : State) : Answer := rotateOperand .rl .indHL s

/-- `RL A` (R237). -/
def execRlA (s : State) : Answer := rotateOperand .rl (.reg .a) s

/-- `RR B` (R238). -/
def execRrB (s : State) : Answer := rotateOperand .rr (.reg .b) s

/-- `RR C` (R238). -/
def execRrC (s : State) : Answer := rotateOperand .rr (.reg .c) s

/-- `RR D` (R238). -/
def execRrD (s : State) : Answer := rotateOperand .rr (.reg .d) s

/-- `RR E` (R238). -/
def execRrE (s : State) : Answer := rotateOperand .rr (.reg .e) s

/-- `RR H` (R238). -/
def execRrH (s : State) : Answer := rotateOperand .rr (.reg .h) s

/-- `RR L` (R238). -/
def execRrL (s : State) : Answer := rotateOperand .rr (.reg .l) s

/-- `RR (HL)` (R238). -/
def execRrIndHL (s : State) : Answer := rotateOperand .rr .indHL s

/-- `RR A` (R238). -/
def execRrA (s : State) : Answer := rotateOperand .rr (.reg .a) s

/-- `SLA B` (R239). -/
def execSlaB (s : State) : Answer := rotateOperand .sla (.reg .b) s

/-- `SLA C` (R239). -/
def execSlaC (s : State) : Answer := rotateOperand .sla (.reg .c) s

/-- `SLA D` (R239). -/
def execSlaD (s : State) : Answer := rotateOperand .sla (.reg .d) s

/-- `SLA E` (R239). -/
def execSlaE (s : State) : Answer := rotateOperand .sla (.reg .e) s

/-- `SLA H` (R239). -/
def execSlaH (s : State) : Answer := rotateOperand .sla (.reg .h) s

/-- `SLA L` (R239). -/
def execSlaL (s : State) : Answer := rotateOperand .sla (.reg .l) s

/-- `SLA (HL)` (R239). -/
def execSlaIndHL (s : State) : Answer := rotateOperand .sla .indHL s

/-- `SLA A` (R239). -/
def execSlaA (s : State) : Answer := rotateOperand .sla (.reg .a) s

/-- `SRA B` (R240). -/
def execSraB (s : State) : Answer := rotateOperand .sra (.reg .b) s

/-- `SRA C` (R240). -/
def execSraC (s : State) : Answer := rotateOperand .sra (.reg .c) s

/-- `SRA D` (R240). -/
def execSraD (s : State) : Answer := rotateOperand .sra (.reg .d) s

/-- `SRA E` (R240). -/
def execSraE (s : State) : Answer := rotateOperand .sra (.reg .e) s

/-- `SRA H` (R240). -/
def execSraH (s : State) : Answer := rotateOperand .sra (.reg .h) s

/-- `SRA L` (R240). -/
def execSraL (s : State) : Answer := rotateOperand .sra (.reg .l) s

/-- `SRA (HL)` (R240). -/
def execSraIndHL (s : State) : Answer := rotateOperand .sra .indHL s

/-- `SRA A` (R240). -/
def execSraA (s : State) : Answer := rotateOperand .sra (.reg .a) s

/-- `SWAP B` (R241). -/
def execSwapB (s : State) : Answer := rotateOperand .swap (.reg .b) s

/-- `SWAP C` (R241). -/
def execSwapC (s : State) : Answer := rotateOperand .swap (.reg .c) s

/-- `SWAP D` (R241). -/
def execSwapD (s : State) : Answer := rotateOperand .swap (.reg .d) s

/-- `SWAP E` (R241). -/
def execSwapE (s : State) : Answer := rotateOperand .swap (.reg .e) s

/-- `SWAP H` (R241). -/
def execSwapH (s : State) : Answer := rotateOperand .swap (.reg .h) s

/-- `SWAP L` (R241). -/
def execSwapL (s : State) : Answer := rotateOperand .swap (.reg .l) s

/-- `SWAP (HL)` (R241). -/
def execSwapIndHL (s : State) : Answer := rotateOperand .swap .indHL s

/-- `SWAP A` (R241). -/
def execSwapA (s : State) : Answer := rotateOperand .swap (.reg .a) s

/-- `SRL B` (R242). -/
def execSrlB (s : State) : Answer := rotateOperand .srl (.reg .b) s

/-- `SRL C` (R242). -/
def execSrlC (s : State) : Answer := rotateOperand .srl (.reg .c) s

/-- `SRL D` (R242). -/
def execSrlD (s : State) : Answer := rotateOperand .srl (.reg .d) s

/-- `SRL E` (R242). -/
def execSrlE (s : State) : Answer := rotateOperand .srl (.reg .e) s

/-- `SRL H` (R242). -/
def execSrlH (s : State) : Answer := rotateOperand .srl (.reg .h) s

/-- `SRL L` (R242). -/
def execSrlL (s : State) : Answer := rotateOperand .srl (.reg .l) s

/-- `SRL (HL)` (R242). -/
def execSrlIndHL (s : State) : Answer := rotateOperand .srl .indHL s

/-- `SRL A` (R242). -/
def execSrlA (s : State) : Answer := rotateOperand .srl (.reg .a) s

/-- `BIT 0,B` (R243). -/
def execBit0B (s : State) : Answer := testBitOperand 0 (.reg .b) s

/-- `BIT 0,C` (R243). -/
def execBit0C (s : State) : Answer := testBitOperand 0 (.reg .c) s

/-- `BIT 0,D` (R243). -/
def execBit0D (s : State) : Answer := testBitOperand 0 (.reg .d) s

/-- `BIT 0,E` (R243). -/
def execBit0E (s : State) : Answer := testBitOperand 0 (.reg .e) s

/-- `BIT 0,H` (R243). -/
def execBit0H (s : State) : Answer := testBitOperand 0 (.reg .h) s

/-- `BIT 0,L` (R243). -/
def execBit0L (s : State) : Answer := testBitOperand 0 (.reg .l) s

/-- `BIT 0,(HL)` (R243). -/
def execBit0IndHL (s : State) : Answer := testBitOperand 0 .indHL s

/-- `BIT 0,A` (R243). -/
def execBit0A (s : State) : Answer := testBitOperand 0 (.reg .a) s

/-- `BIT 1,B` (R243). -/
def execBit1B (s : State) : Answer := testBitOperand 1 (.reg .b) s

/-- `BIT 1,C` (R243). -/
def execBit1C (s : State) : Answer := testBitOperand 1 (.reg .c) s

/-- `BIT 1,D` (R243). -/
def execBit1D (s : State) : Answer := testBitOperand 1 (.reg .d) s

/-- `BIT 1,E` (R243). -/
def execBit1E (s : State) : Answer := testBitOperand 1 (.reg .e) s

/-- `BIT 1,H` (R243). -/
def execBit1H (s : State) : Answer := testBitOperand 1 (.reg .h) s

/-- `BIT 1,L` (R243). -/
def execBit1L (s : State) : Answer := testBitOperand 1 (.reg .l) s

/-- `BIT 1,(HL)` (R243). -/
def execBit1IndHL (s : State) : Answer := testBitOperand 1 .indHL s

/-- `BIT 1,A` (R243). -/
def execBit1A (s : State) : Answer := testBitOperand 1 (.reg .a) s

/-- `BIT 2,B` (R243). -/
def execBit2B (s : State) : Answer := testBitOperand 2 (.reg .b) s

/-- `BIT 2,C` (R243). -/
def execBit2C (s : State) : Answer := testBitOperand 2 (.reg .c) s

/-- `BIT 2,D` (R243). -/
def execBit2D (s : State) : Answer := testBitOperand 2 (.reg .d) s

/-- `BIT 2,E` (R243). -/
def execBit2E (s : State) : Answer := testBitOperand 2 (.reg .e) s

/-- `BIT 2,H` (R243). -/
def execBit2H (s : State) : Answer := testBitOperand 2 (.reg .h) s

/-- `BIT 2,L` (R243). -/
def execBit2L (s : State) : Answer := testBitOperand 2 (.reg .l) s

/-- `BIT 2,(HL)` (R243). -/
def execBit2IndHL (s : State) : Answer := testBitOperand 2 .indHL s

/-- `BIT 2,A` (R243). -/
def execBit2A (s : State) : Answer := testBitOperand 2 (.reg .a) s

/-- `BIT 3,B` (R243). -/
def execBit3B (s : State) : Answer := testBitOperand 3 (.reg .b) s

/-- `BIT 3,C` (R243). -/
def execBit3C (s : State) : Answer := testBitOperand 3 (.reg .c) s

/-- `BIT 3,D` (R243). -/
def execBit3D (s : State) : Answer := testBitOperand 3 (.reg .d) s

/-- `BIT 3,E` (R243). -/
def execBit3E (s : State) : Answer := testBitOperand 3 (.reg .e) s

/-- `BIT 3,H` (R243). -/
def execBit3H (s : State) : Answer := testBitOperand 3 (.reg .h) s

/-- `BIT 3,L` (R243). -/
def execBit3L (s : State) : Answer := testBitOperand 3 (.reg .l) s

/-- `BIT 3,(HL)` (R243). -/
def execBit3IndHL (s : State) : Answer := testBitOperand 3 .indHL s

/-- `BIT 3,A` (R243). -/
def execBit3A (s : State) : Answer := testBitOperand 3 (.reg .a) s

/-- `BIT 4,B` (R243). -/
def execBit4B (s : State) : Answer := testBitOperand 4 (.reg .b) s

/-- `BIT 4,C` (R243). -/
def execBit4C (s : State) : Answer := testBitOperand 4 (.reg .c) s

/-- `BIT 4,D` (R243). -/
def execBit4D (s : State) : Answer := testBitOperand 4 (.reg .d) s

/-- `BIT 4,E` (R243). -/
def execBit4E (s : State) : Answer := testBitOperand 4 (.reg .e) s

/-- `BIT 4,H` (R243). -/
def execBit4H (s : State) : Answer := testBitOperand 4 (.reg .h) s

/-- `BIT 4,L` (R243). -/
def execBit4L (s : State) : Answer := testBitOperand 4 (.reg .l) s

/-- `BIT 4,(HL)` (R243). -/
def execBit4IndHL (s : State) : Answer := testBitOperand 4 .indHL s

/-- `BIT 4,A` (R243). -/
def execBit4A (s : State) : Answer := testBitOperand 4 (.reg .a) s

/-- `BIT 5,B` (R243). -/
def execBit5B (s : State) : Answer := testBitOperand 5 (.reg .b) s

/-- `BIT 5,C` (R243). -/
def execBit5C (s : State) : Answer := testBitOperand 5 (.reg .c) s

/-- `BIT 5,D` (R243). -/
def execBit5D (s : State) : Answer := testBitOperand 5 (.reg .d) s

/-- `BIT 5,E` (R243). -/
def execBit5E (s : State) : Answer := testBitOperand 5 (.reg .e) s

/-- `BIT 5,H` (R243). -/
def execBit5H (s : State) : Answer := testBitOperand 5 (.reg .h) s

/-- `BIT 5,L` (R243). -/
def execBit5L (s : State) : Answer := testBitOperand 5 (.reg .l) s

/-- `BIT 5,(HL)` (R243). -/
def execBit5IndHL (s : State) : Answer := testBitOperand 5 .indHL s

/-- `BIT 5,A` (R243). -/
def execBit5A (s : State) : Answer := testBitOperand 5 (.reg .a) s

/-- `BIT 6,B` (R243). -/
def execBit6B (s : State) : Answer := testBitOperand 6 (.reg .b) s

/-- `BIT 6,C` (R243). -/
def execBit6C (s : State) : Answer := testBitOperand 6 (.reg .c) s

/-- `BIT 6,D` (R243). -/
def execBit6D (s : State) : Answer := testBitOperand 6 (.reg .d) s

/-- `BIT 6,E` (R243). -/
def execBit6E (s : State) : Answer := testBitOperand 6 (.reg .e) s

/-- `BIT 6,H` (R243). -/
def execBit6H (s : State) : Answer := testBitOperand 6 (.reg .h) s

/-- `BIT 6,L` (R243). -/
def execBit6L (s : State) : Answer := testBitOperand 6 (.reg .l) s

/-- `BIT 6,(HL)` (R243). -/
def execBit6IndHL (s : State) : Answer := testBitOperand 6 .indHL s

/-- `BIT 6,A` (R243). -/
def execBit6A (s : State) : Answer := testBitOperand 6 (.reg .a) s

/-- `BIT 7,B` (R243). -/
def execBit7B (s : State) : Answer := testBitOperand 7 (.reg .b) s

/-- `BIT 7,C` (R243). -/
def execBit7C (s : State) : Answer := testBitOperand 7 (.reg .c) s

/-- `BIT 7,D` (R243). -/
def execBit7D (s : State) : Answer := testBitOperand 7 (.reg .d) s

/-- `BIT 7,E` (R243). -/
def execBit7E (s : State) : Answer := testBitOperand 7 (.reg .e) s

/-- `BIT 7,H` (R243). -/
def execBit7H (s : State) : Answer := testBitOperand 7 (.reg .h) s

/-- `BIT 7,L` (R243). -/
def execBit7L (s : State) : Answer := testBitOperand 7 (.reg .l) s

/-- `BIT 7,(HL)` (R243). -/
def execBit7IndHL (s : State) : Answer := testBitOperand 7 .indHL s

/-- `BIT 7,A` (R243). -/
def execBit7A (s : State) : Answer := testBitOperand 7 (.reg .a) s

/-- `RES 0,B` (R244). -/
def execRes0B (s : State) : Answer := resetBitOperand 0 (.reg .b) s

/-- `RES 0,C` (R244). -/
def execRes0C (s : State) : Answer := resetBitOperand 0 (.reg .c) s

/-- `RES 0,D` (R244). -/
def execRes0D (s : State) : Answer := resetBitOperand 0 (.reg .d) s

/-- `RES 0,E` (R244). -/
def execRes0E (s : State) : Answer := resetBitOperand 0 (.reg .e) s

/-- `RES 0,H` (R244). -/
def execRes0H (s : State) : Answer := resetBitOperand 0 (.reg .h) s

/-- `RES 0,L` (R244). -/
def execRes0L (s : State) : Answer := resetBitOperand 0 (.reg .l) s

/-- `RES 0,(HL)` (R244). -/
def execRes0IndHL (s : State) : Answer := resetBitOperand 0 .indHL s

/-- `RES 0,A` (R244). -/
def execRes0A (s : State) : Answer := resetBitOperand 0 (.reg .a) s

/-- `RES 1,B` (R244). -/
def execRes1B (s : State) : Answer := resetBitOperand 1 (.reg .b) s

/-- `RES 1,C` (R244). -/
def execRes1C (s : State) : Answer := resetBitOperand 1 (.reg .c) s

/-- `RES 1,D` (R244). -/
def execRes1D (s : State) : Answer := resetBitOperand 1 (.reg .d) s

/-- `RES 1,E` (R244). -/
def execRes1E (s : State) : Answer := resetBitOperand 1 (.reg .e) s

/-- `RES 1,H` (R244). -/
def execRes1H (s : State) : Answer := resetBitOperand 1 (.reg .h) s

/-- `RES 1,L` (R244). -/
def execRes1L (s : State) : Answer := resetBitOperand 1 (.reg .l) s

/-- `RES 1,(HL)` (R244). -/
def execRes1IndHL (s : State) : Answer := resetBitOperand 1 .indHL s

/-- `RES 1,A` (R244). -/
def execRes1A (s : State) : Answer := resetBitOperand 1 (.reg .a) s

/-- `RES 2,B` (R244). -/
def execRes2B (s : State) : Answer := resetBitOperand 2 (.reg .b) s

/-- `RES 2,C` (R244). -/
def execRes2C (s : State) : Answer := resetBitOperand 2 (.reg .c) s

/-- `RES 2,D` (R244). -/
def execRes2D (s : State) : Answer := resetBitOperand 2 (.reg .d) s

/-- `RES 2,E` (R244). -/
def execRes2E (s : State) : Answer := resetBitOperand 2 (.reg .e) s

/-- `RES 2,H` (R244). -/
def execRes2H (s : State) : Answer := resetBitOperand 2 (.reg .h) s

/-- `RES 2,L` (R244). -/
def execRes2L (s : State) : Answer := resetBitOperand 2 (.reg .l) s

/-- `RES 2,(HL)` (R244). -/
def execRes2IndHL (s : State) : Answer := resetBitOperand 2 .indHL s

/-- `RES 2,A` (R244). -/
def execRes2A (s : State) : Answer := resetBitOperand 2 (.reg .a) s

/-- `RES 3,B` (R244). -/
def execRes3B (s : State) : Answer := resetBitOperand 3 (.reg .b) s

/-- `RES 3,C` (R244). -/
def execRes3C (s : State) : Answer := resetBitOperand 3 (.reg .c) s

/-- `RES 3,D` (R244). -/
def execRes3D (s : State) : Answer := resetBitOperand 3 (.reg .d) s

/-- `RES 3,E` (R244). -/
def execRes3E (s : State) : Answer := resetBitOperand 3 (.reg .e) s

/-- `RES 3,H` (R244). -/
def execRes3H (s : State) : Answer := resetBitOperand 3 (.reg .h) s

/-- `RES 3,L` (R244). -/
def execRes3L (s : State) : Answer := resetBitOperand 3 (.reg .l) s

/-- `RES 3,(HL)` (R244). -/
def execRes3IndHL (s : State) : Answer := resetBitOperand 3 .indHL s

/-- `RES 3,A` (R244). -/
def execRes3A (s : State) : Answer := resetBitOperand 3 (.reg .a) s

/-- `RES 4,B` (R244). -/
def execRes4B (s : State) : Answer := resetBitOperand 4 (.reg .b) s

/-- `RES 4,C` (R244). -/
def execRes4C (s : State) : Answer := resetBitOperand 4 (.reg .c) s

/-- `RES 4,D` (R244). -/
def execRes4D (s : State) : Answer := resetBitOperand 4 (.reg .d) s

/-- `RES 4,E` (R244). -/
def execRes4E (s : State) : Answer := resetBitOperand 4 (.reg .e) s

/-- `RES 4,H` (R244). -/
def execRes4H (s : State) : Answer := resetBitOperand 4 (.reg .h) s

/-- `RES 4,L` (R244). -/
def execRes4L (s : State) : Answer := resetBitOperand 4 (.reg .l) s

/-- `RES 4,(HL)` (R244). -/
def execRes4IndHL (s : State) : Answer := resetBitOperand 4 .indHL s

/-- `RES 4,A` (R244). -/
def execRes4A (s : State) : Answer := resetBitOperand 4 (.reg .a) s

/-- `RES 5,B` (R244). -/
def execRes5B (s : State) : Answer := resetBitOperand 5 (.reg .b) s

/-- `RES 5,C` (R244). -/
def execRes5C (s : State) : Answer := resetBitOperand 5 (.reg .c) s

/-- `RES 5,D` (R244). -/
def execRes5D (s : State) : Answer := resetBitOperand 5 (.reg .d) s

/-- `RES 5,E` (R244). -/
def execRes5E (s : State) : Answer := resetBitOperand 5 (.reg .e) s

/-- `RES 5,H` (R244). -/
def execRes5H (s : State) : Answer := resetBitOperand 5 (.reg .h) s

/-- `RES 5,L` (R244). -/
def execRes5L (s : State) : Answer := resetBitOperand 5 (.reg .l) s

/-- `RES 5,(HL)` (R244). -/
def execRes5IndHL (s : State) : Answer := resetBitOperand 5 .indHL s

/-- `RES 5,A` (R244). -/
def execRes5A (s : State) : Answer := resetBitOperand 5 (.reg .a) s

/-- `RES 6,B` (R244). -/
def execRes6B (s : State) : Answer := resetBitOperand 6 (.reg .b) s

/-- `RES 6,C` (R244). -/
def execRes6C (s : State) : Answer := resetBitOperand 6 (.reg .c) s

/-- `RES 6,D` (R244). -/
def execRes6D (s : State) : Answer := resetBitOperand 6 (.reg .d) s

/-- `RES 6,E` (R244). -/
def execRes6E (s : State) : Answer := resetBitOperand 6 (.reg .e) s

/-- `RES 6,H` (R244). -/
def execRes6H (s : State) : Answer := resetBitOperand 6 (.reg .h) s

/-- `RES 6,L` (R244). -/
def execRes6L (s : State) : Answer := resetBitOperand 6 (.reg .l) s

/-- `RES 6,(HL)` (R244). -/
def execRes6IndHL (s : State) : Answer := resetBitOperand 6 .indHL s

/-- `RES 6,A` (R244). -/
def execRes6A (s : State) : Answer := resetBitOperand 6 (.reg .a) s

/-- `RES 7,B` (R244). -/
def execRes7B (s : State) : Answer := resetBitOperand 7 (.reg .b) s

/-- `RES 7,C` (R244). -/
def execRes7C (s : State) : Answer := resetBitOperand 7 (.reg .c) s

/-- `RES 7,D` (R244). -/
def execRes7D (s : State) : Answer := resetBitOperand 7 (.reg .d) s

/-- `RES 7,E` (R244). -/
def execRes7E (s : State) : Answer := resetBitOperand 7 (.reg .e) s

/-- `RES 7,H` (R244). -/
def execRes7H (s : State) : Answer := resetBitOperand 7 (.reg .h) s

/-- `RES 7,L` (R244). -/
def execRes7L (s : State) : Answer := resetBitOperand 7 (.reg .l) s

/-- `RES 7,(HL)` (R244). -/
def execRes7IndHL (s : State) : Answer := resetBitOperand 7 .indHL s

/-- `RES 7,A` (R244). -/
def execRes7A (s : State) : Answer := resetBitOperand 7 (.reg .a) s

/-- `SET 0,B` (R245). -/
def execSet0B (s : State) : Answer := setBitOperand 0 (.reg .b) s

/-- `SET 0,C` (R245). -/
def execSet0C (s : State) : Answer := setBitOperand 0 (.reg .c) s

/-- `SET 0,D` (R245). -/
def execSet0D (s : State) : Answer := setBitOperand 0 (.reg .d) s

/-- `SET 0,E` (R245). -/
def execSet0E (s : State) : Answer := setBitOperand 0 (.reg .e) s

/-- `SET 0,H` (R245). -/
def execSet0H (s : State) : Answer := setBitOperand 0 (.reg .h) s

/-- `SET 0,L` (R245). -/
def execSet0L (s : State) : Answer := setBitOperand 0 (.reg .l) s

/-- `SET 0,(HL)` (R245). -/
def execSet0IndHL (s : State) : Answer := setBitOperand 0 .indHL s

/-- `SET 0,A` (R245). -/
def execSet0A (s : State) : Answer := setBitOperand 0 (.reg .a) s

/-- `SET 1,B` (R245). -/
def execSet1B (s : State) : Answer := setBitOperand 1 (.reg .b) s

/-- `SET 1,C` (R245). -/
def execSet1C (s : State) : Answer := setBitOperand 1 (.reg .c) s

/-- `SET 1,D` (R245). -/
def execSet1D (s : State) : Answer := setBitOperand 1 (.reg .d) s

/-- `SET 1,E` (R245). -/
def execSet1E (s : State) : Answer := setBitOperand 1 (.reg .e) s

/-- `SET 1,H` (R245). -/
def execSet1H (s : State) : Answer := setBitOperand 1 (.reg .h) s

/-- `SET 1,L` (R245). -/
def execSet1L (s : State) : Answer := setBitOperand 1 (.reg .l) s

/-- `SET 1,(HL)` (R245). -/
def execSet1IndHL (s : State) : Answer := setBitOperand 1 .indHL s

/-- `SET 1,A` (R245). -/
def execSet1A (s : State) : Answer := setBitOperand 1 (.reg .a) s

/-- `SET 2,B` (R245). -/
def execSet2B (s : State) : Answer := setBitOperand 2 (.reg .b) s

/-- `SET 2,C` (R245). -/
def execSet2C (s : State) : Answer := setBitOperand 2 (.reg .c) s

/-- `SET 2,D` (R245). -/
def execSet2D (s : State) : Answer := setBitOperand 2 (.reg .d) s

/-- `SET 2,E` (R245). -/
def execSet2E (s : State) : Answer := setBitOperand 2 (.reg .e) s

/-- `SET 2,H` (R245). -/
def execSet2H (s : State) : Answer := setBitOperand 2 (.reg .h) s

/-- `SET 2,L` (R245). -/
def execSet2L (s : State) : Answer := setBitOperand 2 (.reg .l) s

/-- `SET 2,(HL)` (R245). -/
def execSet2IndHL (s : State) : Answer := setBitOperand 2 .indHL s

/-- `SET 2,A` (R245). -/
def execSet2A (s : State) : Answer := setBitOperand 2 (.reg .a) s

/-- `SET 3,B` (R245). -/
def execSet3B (s : State) : Answer := setBitOperand 3 (.reg .b) s

/-- `SET 3,C` (R245). -/
def execSet3C (s : State) : Answer := setBitOperand 3 (.reg .c) s

/-- `SET 3,D` (R245). -/
def execSet3D (s : State) : Answer := setBitOperand 3 (.reg .d) s

/-- `SET 3,E` (R245). -/
def execSet3E (s : State) : Answer := setBitOperand 3 (.reg .e) s

/-- `SET 3,H` (R245). -/
def execSet3H (s : State) : Answer := setBitOperand 3 (.reg .h) s

/-- `SET 3,L` (R245). -/
def execSet3L (s : State) : Answer := setBitOperand 3 (.reg .l) s

/-- `SET 3,(HL)` (R245). -/
def execSet3IndHL (s : State) : Answer := setBitOperand 3 .indHL s

/-- `SET 3,A` (R245). -/
def execSet3A (s : State) : Answer := setBitOperand 3 (.reg .a) s

/-- `SET 4,B` (R245). -/
def execSet4B (s : State) : Answer := setBitOperand 4 (.reg .b) s

/-- `SET 4,C` (R245). -/
def execSet4C (s : State) : Answer := setBitOperand 4 (.reg .c) s

/-- `SET 4,D` (R245). -/
def execSet4D (s : State) : Answer := setBitOperand 4 (.reg .d) s

/-- `SET 4,E` (R245). -/
def execSet4E (s : State) : Answer := setBitOperand 4 (.reg .e) s

/-- `SET 4,H` (R245). -/
def execSet4H (s : State) : Answer := setBitOperand 4 (.reg .h) s

/-- `SET 4,L` (R245). -/
def execSet4L (s : State) : Answer := setBitOperand 4 (.reg .l) s

/-- `SET 4,(HL)` (R245). -/
def execSet4IndHL (s : State) : Answer := setBitOperand 4 .indHL s

/-- `SET 4,A` (R245). -/
def execSet4A (s : State) : Answer := setBitOperand 4 (.reg .a) s

/-- `SET 5,B` (R245). -/
def execSet5B (s : State) : Answer := setBitOperand 5 (.reg .b) s

/-- `SET 5,C` (R245). -/
def execSet5C (s : State) : Answer := setBitOperand 5 (.reg .c) s

/-- `SET 5,D` (R245). -/
def execSet5D (s : State) : Answer := setBitOperand 5 (.reg .d) s

/-- `SET 5,E` (R245). -/
def execSet5E (s : State) : Answer := setBitOperand 5 (.reg .e) s

/-- `SET 5,H` (R245). -/
def execSet5H (s : State) : Answer := setBitOperand 5 (.reg .h) s

/-- `SET 5,L` (R245). -/
def execSet5L (s : State) : Answer := setBitOperand 5 (.reg .l) s

/-- `SET 5,(HL)` (R245). -/
def execSet5IndHL (s : State) : Answer := setBitOperand 5 .indHL s

/-- `SET 5,A` (R245). -/
def execSet5A (s : State) : Answer := setBitOperand 5 (.reg .a) s

/-- `SET 6,B` (R245). -/
def execSet6B (s : State) : Answer := setBitOperand 6 (.reg .b) s

/-- `SET 6,C` (R245). -/
def execSet6C (s : State) : Answer := setBitOperand 6 (.reg .c) s

/-- `SET 6,D` (R245). -/
def execSet6D (s : State) : Answer := setBitOperand 6 (.reg .d) s

/-- `SET 6,E` (R245). -/
def execSet6E (s : State) : Answer := setBitOperand 6 (.reg .e) s

/-- `SET 6,H` (R245). -/
def execSet6H (s : State) : Answer := setBitOperand 6 (.reg .h) s

/-- `SET 6,L` (R245). -/
def execSet6L (s : State) : Answer := setBitOperand 6 (.reg .l) s

/-- `SET 6,(HL)` (R245). -/
def execSet6IndHL (s : State) : Answer := setBitOperand 6 .indHL s

/-- `SET 6,A` (R245). -/
def execSet6A (s : State) : Answer := setBitOperand 6 (.reg .a) s

/-- `SET 7,B` (R245). -/
def execSet7B (s : State) : Answer := setBitOperand 7 (.reg .b) s

/-- `SET 7,C` (R245). -/
def execSet7C (s : State) : Answer := setBitOperand 7 (.reg .c) s

/-- `SET 7,D` (R245). -/
def execSet7D (s : State) : Answer := setBitOperand 7 (.reg .d) s

/-- `SET 7,E` (R245). -/
def execSet7E (s : State) : Answer := setBitOperand 7 (.reg .e) s

/-- `SET 7,H` (R245). -/
def execSet7H (s : State) : Answer := setBitOperand 7 (.reg .h) s

/-- `SET 7,L` (R245). -/
def execSet7L (s : State) : Answer := setBitOperand 7 (.reg .l) s

/-- `SET 7,(HL)` (R245). -/
def execSet7IndHL (s : State) : Answer := setBitOperand 7 .indHL s

/-- `SET 7,A` (R245). -/
def execSet7A (s : State) : Answer := setBitOperand 7 (.reg .a) s

end Sys2Proof.Machine
end

