-- ==== Sys2Proof/Machine/CpuControl.lean ====
section
/-! DEFINITION. Processor control: NOP, HALT, STOP, DI, EI, the prefix, the illegal opcodes, and the idle step of a
halted processor (46_cpu_control.md). -/

namespace Sys2Proof.Machine

/-- The step of a halted processor: no fetch, no change, 4 cycles (R281). -/
def idle (s : State) : Answer := done 4 s

/-- An illegal opcode: `IllegalLog(op, a)`, where `a` is the address the opcode was read from, and nothing else
(R288). -/
def illegalOpcode (op : Byte) (s : State) : Answer :=
  done 4 { s.fetched 0 with illegalLog := s.illegalLog ++ [(op, s.pc)] }

/-- `NOP` (R282). -/
def execNop (s : State) : Answer := done 4 (s.fetched 0)

/-- `STOP` (R284). No effect but the fetch; not logged. -/
def execStop (s : State) : Answer := done 4 (s.fetched (if Config.stopSkipsOperand then 1 else 0))

/-- `HALT` (R283). With `IME = 0` and an interrupt pending the processor does not halt and the halt bug is set; else it
halts with `PC` at the address the opcode was read from. -/
def execHalt (s : State) : Answer :=
  let t := s.fetched 0
  if t.ime = false ∧ t.pending ≠ 0 then done 4 { t with haltBug := true }
  else done 4 { t with halted := true, pc := s.pc }

/-- `PREFIX CB` (R287). The second byte is fetched with `Fetch8()` and selects in the second table. -/
def execPrefixCB (s : State) : Answer := secondTable (s.readByte s.pcAfterOpcode) s

/-- `ILLEGAL_D3` (R288). -/
def execIllegalD3 (s : State) : Answer := illegalOpcode 0xD3 s

/-- `ILLEGAL_DB` (R288). -/
def execIllegalDB (s : State) : Answer := illegalOpcode 0xDB s

/-- `ILLEGAL_DD` (R288). -/
def execIllegalDD (s : State) : Answer := illegalOpcode 0xDD s

/-- `ILLEGAL_E3` (R288). -/
def execIllegalE3 (s : State) : Answer := illegalOpcode 0xE3 s

/-- `ILLEGAL_E4` (R288). -/
def execIllegalE4 (s : State) : Answer := illegalOpcode 0xE4 s

/-- `ILLEGAL_EB` (R288). -/
def execIllegalEB (s : State) : Answer := illegalOpcode 0xEB s

/-- `ILLEGAL_EC` (R288). -/
def execIllegalEC (s : State) : Answer := illegalOpcode 0xEC s

/-- `ILLEGAL_ED` (R288). -/
def execIllegalED (s : State) : Answer := illegalOpcode 0xED s

/-- `DI` (R285). At once, and it cancels an EI that has not taken effect yet. -/
def execDi (s : State) : Answer := done 4 { s.fetched 0 with ime := false, imeDelay := 0 }

/-- `ILLEGAL_F4` (R288). -/
def execIllegalF4 (s : State) : Answer := illegalOpcode 0xF4 s

/-- `EI` (R286). `IME` itself becomes 1 only after the following instruction (`imeTick`). R286 also says that EI with
`IME = 1` "changes nothing observable", while its operation starts the countdown then too, and a dispatch leaves it running
(R311), so that `IME` is set again after the handler's first instruction: DESIGN CHOICE, the operation is followed
(log 19). -/
def execEi (s : State) : Answer :=
  let t := s.fetched 0
  done 4 (if t.imeDelay = 0 then { t with imeDelay := 2 } else t)

/-- `ILLEGAL_FC` (R288). -/
def execIllegalFC (s : State) : Answer := illegalOpcode 0xFC s

/-- `ILLEGAL_FD` (R288). -/
def execIllegalFD (s : State) : Answer := illegalOpcode 0xFD s

end Sys2Proof.Machine
end

