-- ==== Sys2Proof/Machine/Load16.lean ====
section
/-! DEFINITION. The 16-bit loads and the stack instructions (41_load16_stack.md). -/

namespace Sys2Proof.Machine

/-- `rr[p] <- n16` (R171). -/
def loadReg16Imm (p : Reg16) (n : Word) (s : State) : Answer := done 12 ((s.fetched 2).setReg16 p n)

/-- `Push16(rr2[p])` (R174, R175). -/
def pushPair (p : StackReg) (s : State) : Answer :=
  let t := s.fetched 0
  done 16 (t.push16 (t.stackReg p))

/-- `rr2[p] <- Pop16()` (R176, R177). -/
def popPair (p : StackReg) (s : State) : Answer :=
  let t := s.fetched 0
  done 12 (t.afterPop.setStackReg p t.popped)

/-- `LD BC,n16` (R171). -/
def execLdBCN16 (n : Word) (s : State) : Answer := loadReg16Imm .bc n s

/-- `LD (a16),SP` (R172). -/
def execLdIndA16SP (addr : Word) (s : State) : Answer :=
  let t := s.fetched 2
  done 20 (t.writeWord addr t.sp)

/-- `LD DE,n16` (R171). -/
def execLdDEN16 (n : Word) (s : State) : Answer := loadReg16Imm .de n s

/-- `LD HL,n16` (R171). -/
def execLdHLN16 (n : Word) (s : State) : Answer := loadReg16Imm .hl n s

/-- `LD SP,n16` (R171). -/
def execLdSPN16 (n : Word) (s : State) : Answer := loadReg16Imm .sp n s

/-- `POP BC` (R176). -/
def execPopBC (s : State) : Answer := popPair .bc s

/-- `PUSH BC` (R174). -/
def execPushBC (s : State) : Answer := pushPair .bc s

/-- `POP DE` (R176). -/
def execPopDE (s : State) : Answer := popPair .de s

/-- `PUSH DE` (R174). -/
def execPushDE (s : State) : Answer := pushPair .de s

/-- `POP HL` (R176). -/
def execPopHL (s : State) : Answer := popPair .hl s

/-- `PUSH HL` (R174). -/
def execPushHL (s : State) : Answer := pushPair .hl s

/-- `POP AF` (R177). -/
def execPopAF (s : State) : Answer := popPair .af s

/-- `PUSH AF` (R175). -/
def execPushAF (s : State) : Answer := pushPair .af s

/-- `LD HL,SP+e8` (R178). `SP` is not changed. -/
def execLdHLSPE8 (e : Byte) (s : State) : Answer :=
  let t := s.fetched 1
  let r := addSigned t.sp e
  done 12 ({ t with f := r.2 }.setHL r.1)

/-- `LD SP,HL` (R173). -/
def execLdSPHL (s : State) : Answer :=
  let t := s.fetched 0
  done 8 { t with sp := t.hl }

end Sys2Proof.Machine
end

