-- ==== Sys2Proof/Machine/Load8.lean ====
section
/-! DEFINITION. The 8-bit loads (40_load8.md). No flag changes (R159). -/

namespace Sys2Proof.Machine

/-- `r[y] <- r[z]`, both registers (R140). -/
def loadReg (dst src : Reg8) (s : State) : Answer :=
  let t := s.fetched 0
  done 4 (t.setReg dst (t.reg src))

/-- `r[y] <- MemRead(HL, 1)`, at the old `HL` (R141). -/
def loadRegIndHL (dst : Reg8) (s : State) : Answer :=
  let t := s.fetched 0
  done 8 (t.setReg dst (t.readByte t.hl))

/-- `MemWrite(HL, 1, r[z])` (R142). -/
def storeRegIndHL (r : Reg8) (s : State) : Answer :=
  let t := s.fetched 0
  done 8 (t.writeByte t.hl (t.reg r))

/-- `r[y] <- n8` (R143). -/
def loadRegImm (dst : Reg8) (n : Byte) (s : State) : Answer := done 8 ((s.fetched 1).setReg dst n)

/-- `A <- MemRead(addr, 1)` by an instruction of `operands` operand bytes and `cost` cycles (R144, R145, R149,
R151, R153). -/
def loadA (operands cost : Nat) (addr : Word) (s : State) : Answer :=
  let t := s.fetched operands
  done cost { t with a := t.readByte addr }

/-- `MemWrite(addr, 1, A)` by an instruction of `operands` operand bytes and `cost` cycles (R146, R147, R150,
R152, R154). -/
def storeA (operands cost : Nat) (addr : Word) (s : State) : Answer :=
  let t := s.fetched operands
  done cost (t.writeByte addr t.a)

/-- `A <- MemRead(HL, 1); HL <- HL + step` (R156, R158). -/
def loadAMoveHL (step : Word) (s : State) : Answer :=
  let t := s.fetched 0
  done 8 ({ t with a := t.readByte t.hl }.setHL (t.hl + step))

/-- `MemWrite(HL, 1, A); HL <- HL + step` (R155, R157). -/
def storeAMoveHL (step : Word) (s : State) : Answer :=
  let t := s.fetched 0
  done 8 ((t.writeByte t.hl t.a).setHL (t.hl + step))

/-- `LD (BC),A` (R146). -/
def execLdIndBCA (s : State) : Answer := storeA 0 8 s.bc s

/-- `LD B,n8` (R143). -/
def execLdBN8 (n : Byte) (s : State) : Answer := loadRegImm .b n s

/-- `LD A,(BC)` (R144). -/
def execLdAIndBC (s : State) : Answer := loadA 0 8 s.bc s

/-- `LD C,n8` (R143). -/
def execLdCN8 (n : Byte) (s : State) : Answer := loadRegImm .c n s

/-- `LD (DE),A` (R147). -/
def execLdIndDEA (s : State) : Answer := storeA 0 8 s.de s

/-- `LD D,n8` (R143). -/
def execLdDN8 (n : Byte) (s : State) : Answer := loadRegImm .d n s

/-- `LD A,(DE)` (R145). -/
def execLdAIndDE (s : State) : Answer := loadA 0 8 s.de s

/-- `LD E,n8` (R143). -/
def execLdEN8 (n : Byte) (s : State) : Answer := loadRegImm .e n s

/-- `LD (HL+),A` (R155). -/
def execLdIndHLIncA (s : State) : Answer := storeAMoveHL 1 s

/-- `LD H,n8` (R143). -/
def execLdHN8 (n : Byte) (s : State) : Answer := loadRegImm .h n s

/-- `LD A,(HL+)` (R156). -/
def execLdAIndHLInc (s : State) : Answer := loadAMoveHL 1 s

/-- `LD L,n8` (R143). -/
def execLdLN8 (n : Byte) (s : State) : Answer := loadRegImm .l n s

/-- `LD (HL-),A` (R157). -/
def execLdIndHLDecA (s : State) : Answer := storeAMoveHL (-1) s

/-- `LD (HL),n8` (R148). -/
def execLdIndHLN8 (n : Byte) (s : State) : Answer :=
  let t := s.fetched 1
  done 12 (t.writeByte t.hl n)

/-- `LD A,(HL-)` (R158). -/
def execLdAIndHLDec (s : State) : Answer := loadAMoveHL (-1) s

/-- `LD A,n8` (R143). -/
def execLdAN8 (n : Byte) (s : State) : Answer := loadRegImm .a n s

/-- `LD B,B` (R140). -/
def execLdBB (s : State) : Answer := loadReg .b .b s

/-- `LD B,C` (R140). -/
def execLdBC (s : State) : Answer := loadReg .b .c s

/-- `LD B,D` (R140). -/
def execLdBD (s : State) : Answer := loadReg .b .d s

/-- `LD B,E` (R140). -/
def execLdBE (s : State) : Answer := loadReg .b .e s

/-- `LD B,H` (R140). -/
def execLdBH (s : State) : Answer := loadReg .b .h s

/-- `LD B,L` (R140). -/
def execLdBL (s : State) : Answer := loadReg .b .l s

/-- `LD B,(HL)` (R141). -/
def execLdBIndHL (s : State) : Answer := loadRegIndHL .b s

/-- `LD B,A` (R140). -/
def execLdBA (s : State) : Answer := loadReg .b .a s

/-- `LD C,B` (R140). -/
def execLdCB (s : State) : Answer := loadReg .c .b s

/-- `LD C,C` (R140). -/
def execLdCC (s : State) : Answer := loadReg .c .c s

/-- `LD C,D` (R140). -/
def execLdCD (s : State) : Answer := loadReg .c .d s

/-- `LD C,E` (R140). -/
def execLdCE (s : State) : Answer := loadReg .c .e s

/-- `LD C,H` (R140). -/
def execLdCH (s : State) : Answer := loadReg .c .h s

/-- `LD C,L` (R140). -/
def execLdCL (s : State) : Answer := loadReg .c .l s

/-- `LD C,(HL)` (R141). -/
def execLdCIndHL (s : State) : Answer := loadRegIndHL .c s

/-- `LD C,A` (R140). -/
def execLdCA (s : State) : Answer := loadReg .c .a s

/-- `LD D,B` (R140). -/
def execLdDB (s : State) : Answer := loadReg .d .b s

/-- `LD D,C` (R140). -/
def execLdDC (s : State) : Answer := loadReg .d .c s

/-- `LD D,D` (R140). -/
def execLdDD (s : State) : Answer := loadReg .d .d s

/-- `LD D,E` (R140). -/
def execLdDE (s : State) : Answer := loadReg .d .e s

/-- `LD D,H` (R140). -/
def execLdDH (s : State) : Answer := loadReg .d .h s

/-- `LD D,L` (R140). -/
def execLdDL (s : State) : Answer := loadReg .d .l s

/-- `LD D,(HL)` (R141). -/
def execLdDIndHL (s : State) : Answer := loadRegIndHL .d s

/-- `LD D,A` (R140). -/
def execLdDA (s : State) : Answer := loadReg .d .a s

/-- `LD E,B` (R140). -/
def execLdEB (s : State) : Answer := loadReg .e .b s

/-- `LD E,C` (R140). -/
def execLdEC (s : State) : Answer := loadReg .e .c s

/-- `LD E,D` (R140). -/
def execLdED (s : State) : Answer := loadReg .e .d s

/-- `LD E,E` (R140). -/
def execLdEE (s : State) : Answer := loadReg .e .e s

/-- `LD E,H` (R140). -/
def execLdEH (s : State) : Answer := loadReg .e .h s

/-- `LD E,L` (R140). -/
def execLdEL (s : State) : Answer := loadReg .e .l s

/-- `LD E,(HL)` (R141). -/
def execLdEIndHL (s : State) : Answer := loadRegIndHL .e s

/-- `LD E,A` (R140). -/
def execLdEA (s : State) : Answer := loadReg .e .a s

/-- `LD H,B` (R140). -/
def execLdHB (s : State) : Answer := loadReg .h .b s

/-- `LD H,C` (R140). -/
def execLdHC (s : State) : Answer := loadReg .h .c s

/-- `LD H,D` (R140). -/
def execLdHD (s : State) : Answer := loadReg .h .d s

/-- `LD H,E` (R140). -/
def execLdHE (s : State) : Answer := loadReg .h .e s

/-- `LD H,H` (R140). -/
def execLdHH (s : State) : Answer := loadReg .h .h s

/-- `LD H,L` (R140). -/
def execLdHL (s : State) : Answer := loadReg .h .l s

/-- `LD H,(HL)` (R141). -/
def execLdHIndHL (s : State) : Answer := loadRegIndHL .h s

/-- `LD H,A` (R140). -/
def execLdHA (s : State) : Answer := loadReg .h .a s

/-- `LD L,B` (R140). -/
def execLdLB (s : State) : Answer := loadReg .l .b s

/-- `LD L,C` (R140). -/
def execLdLC (s : State) : Answer := loadReg .l .c s

/-- `LD L,D` (R140). -/
def execLdLD (s : State) : Answer := loadReg .l .d s

/-- `LD L,E` (R140). -/
def execLdLE (s : State) : Answer := loadReg .l .e s

/-- `LD L,H` (R140). -/
def execLdLH (s : State) : Answer := loadReg .l .h s

/-- `LD L,L` (R140). -/
def execLdLL (s : State) : Answer := loadReg .l .l s

/-- `LD L,(HL)` (R141). -/
def execLdLIndHL (s : State) : Answer := loadRegIndHL .l s

/-- `LD L,A` (R140). -/
def execLdLA (s : State) : Answer := loadReg .l .a s

/-- `LD (HL),B` (R142). -/
def execLdIndHLB (s : State) : Answer := storeRegIndHL .b s

/-- `LD (HL),C` (R142). -/
def execLdIndHLC (s : State) : Answer := storeRegIndHL .c s

/-- `LD (HL),D` (R142). -/
def execLdIndHLD (s : State) : Answer := storeRegIndHL .d s

/-- `LD (HL),E` (R142). -/
def execLdIndHLE (s : State) : Answer := storeRegIndHL .e s

/-- `LD (HL),H` (R142). -/
def execLdIndHLH (s : State) : Answer := storeRegIndHL .h s

/-- `LD (HL),L` (R142). -/
def execLdIndHLL (s : State) : Answer := storeRegIndHL .l s

/-- `LD (HL),A` (R142). -/
def execLdIndHLA (s : State) : Answer := storeRegIndHL .a s

/-- `LD A,B` (R140). -/
def execLdAB (s : State) : Answer := loadReg .a .b s

/-- `LD A,C` (R140). -/
def execLdAC (s : State) : Answer := loadReg .a .c s

/-- `LD A,D` (R140). -/
def execLdAD (s : State) : Answer := loadReg .a .d s

/-- `LD A,E` (R140). -/
def execLdAE (s : State) : Answer := loadReg .a .e s

/-- `LD A,H` (R140). -/
def execLdAH (s : State) : Answer := loadReg .a .h s

/-- `LD A,L` (R140). -/
def execLdAL (s : State) : Answer := loadReg .a .l s

/-- `LD A,(HL)` (R141). -/
def execLdAIndHL (s : State) : Answer := loadRegIndHL .a s

/-- `LD A,A` (R140). -/
def execLdAA (s : State) : Answer := loadReg .a .a s

/-- `LDH (a8),A` (R150). -/
def execLdhIndA8A (off : Byte) (s : State) : Answer := storeA 1 12 (highPage off) s

/-- `LD (C),A` (R152). -/
def execLdIndCA (s : State) : Answer := storeA 0 8 (highPage s.c) s

/-- `LD (a16),A` (R154). -/
def execLdIndA16A (addr : Word) (s : State) : Answer := storeA 2 16 addr s

/-- `LDH A,(a8)` (R151). -/
def execLdhAIndA8 (off : Byte) (s : State) : Answer := loadA 1 12 (highPage off) s

/-- `LD A,(C)` (R153). -/
def execLdAIndC (s : State) : Answer := loadA 0 8 (highPage s.c) s

/-- `LD A,(a16)` (R149). -/
def execLdAIndA16 (addr : Word) (s : State) : Answer := loadA 2 16 addr s

end Sys2Proof.Machine
end

