-- ==== Sys2Proof/Machine/Step.lean ====
section
/-! DEFINITION. One step of the machine: `MachineStep` (R305). -/

namespace Sys2Proof.Machine

/-- `CpuStep()` (R281): the idle step while halted, else the instruction at `PC`. -/
def cpuStep (s : State) : Host.Outcome State Fault Refusal := if s.halted then idle s else exec (fetchInstr s) s

/-- `MachineStep()`, after the host's change of the buttons (R305). -/
def step (s : State) : Host.Outcome State Fault Refusal :=
  match cpuStep (takeInput s) with
  | .next t => .next (catchUp t)
  | .fault e => .fault e
  | .refused e => .refused e

/-- The state whose very next step fetches and runs the instruction of a table row (log 7, log 10). -/
def State.withFetchWord (s : State) (nbits w : Nat) : State := placeInstr s (tableWordBytes nbits w)

end Sys2Proof.Machine
end

