-- ==== Sys2Proof/Safety.lean ====
section
/-! DEFINITION. The terms the claims use: the invariant of the machine, the runs, and what the spec's tables say an
instruction may write, store to and cost. The tables are written here once more from the spec, by opcode byte, apart
from the meanings, so that a claim compares the two. -/

namespace Sys2Proof.Machine

/-! The invariant and the runs. -/

/-- What every step keeps: memory is canonical, `STAT[1:0]` is the mode and `STAT[7]` stays 1 (R40, R376), `LY` is a
scanline and a drawn one outside V-Blank (R25, R363), the accumulators are below their periods (R24, R347), the
current mode is not overdue (R375), the frame is 144 lines of 160 pixels (R25, R361), a halted processor has no halt
bug (R20, R283). -/
structure Inv (s : State) : Prop where
  memory : s.mem.wf
  statMode : s.stat &&& 0x03 = s.mode.bits
  statTop : s.stat.getLsbD 7 = true
  scanline : s.ly.toNat ≤ 153
  drawnLine : s.mode ≠ .vBlank → s.ly.toNat ≤ 143
  divider : s.divAcc < 256
  timer : s.timaAcc < 1024
  notOverdue : s.lineCycles < s.mode.duration
  frameLines : s.frameBuffer.length = 144
  framePixels : ∀ line ∈ s.frameBuffer, line.length = 160
  haltBug : s.halted = true → s.haltBug = false

/-- The states a run of some machine comes to, with any inputs from the host (R305, R450, R460). -/
inductive Reachable : State → Prop
  | loaded (image : List Byte) (s : State) (inputs : List Buttons) (h : machineOf image = some s) :
    Reachable { s with buttonInputs := inputs }
  | stepped (s t : State) (hs : Reachable s) (h : step s = .next t) : Reachable t

/-! An instruction by its entry in the two opcode tables. -/

/-- The table an instruction stands in, `true` for the second, its opcode byte there, and its operand bytes. -/
structure Entry where
  second : Bool
  op : Byte
  operands : List Byte

/-- The entry of an instruction, read off its encoding (R120, R135). -/
def entryOf (i : Instr) : Entry :=
  match encode i with
  | [] => { second := false, op := 0, operands := [] }
  | first :: rest =>
    if first = 0xCB then { second := true, op := rest.getD 0 0, operands := [] }
    else { second := false, op := first, operands := rest }

/-- `p = op[5:4]` (R121). -/
def fieldP (op : Byte) : Nat := op.toNat / 16 % 4

/-- The operand bytes as a 16-bit word, low byte first (R127). -/
def Entry.word (e : Entry) : Word := joinBytes (e.operands.getD 1 0) (e.operands.getD 0 0)

/-- The register of the field `z` or `y`, none for `(HL)` (R123). -/
def regsOfField (i : Nat) : List Reg8 :=
  match i with
  | 0 => [.b] | 1 => [.c] | 2 => [.d] | 3 => [.e] | 4 => [.h] | 5 => [.l] | 7 => [.a]
  | _ => []

/-- The 8-bit halves of `rr[p]`, none for `SP` (R124). -/
def regsOfPair (p : Nat) : List Reg8 :=
  match p with
  | 0 => [.b, .c] | 1 => [.d, .e] | 2 => [.h, .l]
  | _ => []

/-- The 8-bit registers an opcode of the base table writes, by its fields (40_load8.md to 44_rotate_shift_bit.md). -/
def baseRegsWritten (op : Byte) : List Reg8 :=
  let y := fieldY op
  let p := fieldP op
  match fieldX op, fieldZ op with
  | 0, 1 => if y % 2 = 0 then regsOfPair p else [.h, .l]
  | 0, 2 => (if y % 2 = 1 then [.a] else []) ++ (if p ≥ 2 then [.h, .l] else [])
  | 0, 3 => regsOfPair p
  | 0, 4 | 0, 5 | 0, 6 => regsOfField y
  | 0, 7 => if y < 6 then [.a] else []
  | 0, _ => []
  | 1, _ => if op = 0x76 then [] else regsOfField y
  | 2, _ => if y = 7 then [] else [.a]
  | _, 6 => if y = 7 then [] else [.a]
  | _, _ =>
    if op = 0xC1 ∨ op = 0xD1 ∨ op = 0xE1 then regsOfPair p
    else if op = 0xF1 ∨ op = 0xF0 ∨ op = 0xF2 ∨ op = 0xFA then [.a]
    else if op = 0xF8 then [.h, .l]
    else []

/-- The 8-bit registers an instruction may write. -/
def regsWritten (i : Instr) : List Reg8 :=
  let e := entryOf i
  if e.second then if fieldX e.op = 1 then [] else regsOfField (fieldZ e.op) else baseRegsWritten e.op

/-- The base opcodes of PUSH (R174, R175). -/
def isPush (op : Byte) : Bool := op == 0xC5 || op == 0xD5 || op == 0xE5 || op == 0xF5
/-- The base opcodes of POP (R176, R177). -/
def isPop (op : Byte) : Bool := op == 0xC1 || op == 0xD1 || op == 0xE1 || op == 0xF1
/-- The base opcodes of RST (R273). -/
def isRst (op : Byte) : Bool := fieldX op == 3 && fieldZ op == 7
/-- The base opcodes of JR cc (R265). -/
def isJumpRelIf (op : Byte) : Bool := op == 0x20 || op == 0x28 || op == 0x30 || op == 0x38
/-- The base opcodes of JP cc (R262). -/
def isJumpIf (op : Byte) : Bool := op == 0xC2 || op == 0xCA || op == 0xD2 || op == 0xDA
/-- The base opcodes of CALL cc (R267). -/
def isCallIf (op : Byte) : Bool := op == 0xC4 || op == 0xCC || op == 0xD4 || op == 0xDC
/-- The base opcodes of RET cc (R269). -/
def isRetIf (op : Byte) : Bool := op == 0xC0 || op == 0xC8 || op == 0xD0 || op == 0xD8
/-- The opcodes with a condition field (R126). -/
def isConditional (op : Byte) : Bool := isJumpRelIf op || isJumpIf op || isCallIf op || isRetIf op

/-- Whether the condition of a conditional opcode holds: `y % 4` is the field `cc` (R126, R260). -/
def conditionHolds (op : Byte) (f : Flags) : Bool :=
  match fieldY op % 4 with
  | 0 => f.z == false
  | 1 => f.z == true
  | 2 => f.c == false
  | _ => f.c == true

/-- Whether an opcode leaves the straight line in a state with these flags. -/
def transfers (op : Byte) (f : Flags) : Bool :=
  if isConditional op then conditionHolds op f
  else op == 0x18 || op == 0xC3 || op == 0xE9 || op == 0xCD || op == 0xC9 || op == 0xD9 || isRst op

/-- Whether an instruction may write `SP`: "LD SP,n16, LD SP,HL, INC SP, DEC SP, ADD SP,e8, PUSH, POP, CALL, RET, RETI,
RST" (R16). -/
def writesSp (i : Instr) (f : Flags) : Bool :=
  let e := entryOf i
  let op := e.op
  !e.second &&
    (op == 0x31 || op == 0xF9 || op == 0x33 || op == 0x3B || op == 0xE8 || isPush op || isPop op || op == 0xCD ||
      op == 0xC9 || op == 0xD9 || isRst op || ((isCallIf op || isRetIf op) && conditionHolds op f))

/-- The addresses an instruction stores a byte to: the operand byte at `HL`, `BC`, `DE`, a high-page or direct address,
the two bytes of `LD (a16),SP`, the two stack bytes of PUSH, CALL and RST (R69). -/
def storedTo (i : Instr) (s : State) : List Word :=
  let e := entryOf i
  let op := e.op
  if e.second then if fieldX op ≠ 1 ∧ fieldZ op = 6 then [s.hl] else []
  else if op = 0x02 then [s.bc]
  else if op = 0x12 then [s.de]
  else if op = 0x22 ∨ op = 0x32 ∨ op = 0x34 ∨ op = 0x35 ∨ op = 0x36 then [s.hl]
  else if 0x70 ≤ op ∧ op ≤ 0x77 ∧ op ≠ 0x76 then [s.hl]
  else if op = 0x08 then [e.word, e.word + 1]
  else if op = 0xE0 then [highPage (e.operands.getD 0 0)]
  else if op = 0xE2 then [highPage s.c]
  else if op = 0xEA then [e.word]
  else if isPush op || isRst op || op == 0xCD || (isCallIf op && conditionHolds op s.f) then [s.sp - 1, s.sp - 2]
  else []

/-! The flags, the table of R185. -/

/-- What the table of R185 says of one flag: `-`, `0`, `1` or `*`. -/
inductive FlagEffect
  | kept | cleared | set | computed
  deriving DecidableEq, Repr

/-- Whether a flag's change is what the table says. -/
def FlagEffect.allows (e : FlagEffect) (before after : Bool) : Prop :=
  match e with
  | .kept => after = before
  | .cleared => after = false
  | .set => after = true
  | .computed => True

/-- The row of an instruction in the table of R185, in the order Z, N, H, C. -/
structure FlagRow where
  z : FlagEffect
  n : FlagEffect
  h : FlagEffect
  c : FlagEffect
  deriving DecidableEq, Repr

/-- The row of an ALU operation by its field `y` (R126, R185). -/
def aluFlagRow (y : Nat) : FlagRow :=
  match y with
  | 0 | 1 => { z := .computed, n := .cleared, h := .computed, c := .computed }
  | 2 | 3 | 7 => { z := .computed, n := .set, h := .computed, c := .computed }
  | 4 => { z := .computed, n := .cleared, h := .set, c := .cleared }
  | _ => { z := .computed, n := .cleared, h := .cleared, c := .cleared }

/-- The row of the instructions that change no flag. -/
def noFlags : FlagRow := { z := .kept, n := .kept, h := .kept, c := .kept }

/-- The row of an opcode of the base table (R185). -/
def baseFlagRow (op : Byte) : FlagRow :=
  let y := fieldY op
  match fieldX op, fieldZ op with
  | 0, 4 => { z := .computed, n := .cleared, h := .computed, c := .kept }
  | 0, 5 => { z := .computed, n := .set, h := .computed, c := .kept }
  | 0, 1 => if y % 2 = 1 then { z := .kept, n := .cleared, h := .computed, c := .computed } else noFlags
  | 0, 7 =>
    match y with
    | 4 => { z := .computed, n := .kept, h := .cleared, c := .computed }
    | 5 => { z := .kept, n := .set, h := .set, c := .kept }
    | 6 => { z := .kept, n := .cleared, h := .cleared, c := .set }
    | 7 => { z := .kept, n := .cleared, h := .cleared, c := .computed }
    | _ => { z := .cleared, n := .cleared, h := .cleared, c := .computed }
  | 0, _ => noFlags
  | 1, _ => noFlags
  | 2, _ => aluFlagRow y
  | _, 6 => aluFlagRow y
  | _, _ =>
    if op = 0xE8 ∨ op = 0xF8 then { z := .cleared, n := .cleared, h := .computed, c := .computed }
    else if op = 0xF1 then { z := .computed, n := .computed, h := .computed, c := .computed }
    else noFlags

/-- The row of an instruction (R185). -/
def flagRow (i : Instr) : FlagRow :=
  let e := entryOf i
  if e.second then
    match fieldX e.op with
    | 0 =>
      if fieldY e.op = 6 then { z := .computed, n := .cleared, h := .cleared, c := .cleared }
      else { z := .computed, n := .cleared, h := .cleared, c := .computed }
    | 1 => { z := .computed, n := .cleared, h := .set, c := .kept }
    | _ => noFlags
  else baseFlagRow e.op

/-! The cycle counts (R131, R132). -/

/-- The grid of R131, rows by the high digit of the opcode, each entry the count when taken; 0 stands where the grid
says R132. -/
def cycleGrid : List (List Nat) :=
  [[ 4, 12, 8, 8,  4,  4, 8, 4, 20, 8, 8, 8, 4, 4, 8, 4],
   [ 4, 12, 8, 8,  4,  4, 8, 4, 12, 8, 8, 8, 4, 4, 8, 4],
   [12, 12, 8, 8,  4,  4, 8, 4, 12, 8, 8, 8, 4, 4, 8, 4],
   [12, 12, 8, 8, 12, 12, 12, 4, 12, 8, 8, 8, 4, 4, 8, 4],
   [4, 4, 4, 4, 4, 4, 8, 4, 4, 4, 4, 4, 4, 4, 8, 4],
   [4, 4, 4, 4, 4, 4, 8, 4, 4, 4, 4, 4, 4, 4, 8, 4],
   [4, 4, 4, 4, 4, 4, 8, 4, 4, 4, 4, 4, 4, 4, 8, 4],
   [8, 8, 8, 8, 8, 8, 4, 8, 4, 4, 4, 4, 4, 4, 8, 4],
   [4, 4, 4, 4, 4, 4, 8, 4, 4, 4, 4, 4, 4, 4, 8, 4],
   [4, 4, 4, 4, 4, 4, 8, 4, 4, 4, 4, 4, 4, 4, 8, 4],
   [4, 4, 4, 4, 4, 4, 8, 4, 4, 4, 4, 4, 4, 4, 8, 4],
   [4, 4, 4, 4, 4, 4, 8, 4, 4, 4, 4, 4, 4, 4, 8, 4],
   [20, 12, 16, 16, 24, 16, 8, 16, 20, 16, 16, 0, 24, 24, 8, 16],
   [20, 12, 16, 4, 24, 16, 8, 16, 20, 16, 16, 4, 24, 4, 8, 16],
   [12, 12, 8, 4, 4, 16, 8, 16, 16, 4, 16, 4, 4, 4, 8, 16],
   [12, 12, 8, 4, 4, 16, 8, 16, 12, 8, 16, 4, 4, 4, 8, 16]]

/-- The count of a conditional opcode that is not taken, the second number of its entry (R131). -/
def notTakenCycles (op : Byte) : Nat := if isJumpIf op || isCallIf op then 12 else 8

/-- The count an instruction reports in a state with these flags (R131, R132). -/
def tableCycles (i : Instr) (f : Flags) : Nat :=
  let e := entryOf i
  if e.second then if fieldZ e.op ≠ 6 then 8 else if fieldX e.op = 1 then 12 else 16
  else if isConditional e.op && !conditionHolds e.op f then notTakenCycles e.op
  else (cycleGrid.getD (e.op.toNat / 16) []).getD (e.op.toNat % 16) 0

/-! Which bytes a store changes. -/

/-- One address for each byte of storage: the echo is folded onto work RAM (R58), the repeated RAM of MBC2 onto its
first copy (R103). -/
def homeAddress (bank : BankState) (n : Nat) : Nat :=
  if 0xE000 ≤ n ∧ n < 0xFE00 then n - 0x2000
  else
    match bank with
    | .mbc2 _ => if 0xA000 ≤ n ∧ n < 0xC000 then 0xA000 + (n - 0xA000) % 512 else n
    | .noBanking | .mbc1 _ | .mbc3 _ | .mbc5 _ => n

/-- Whether a byte stored at `addr` may change what a read of `x` gives: the same byte of storage; the whole of the two
bank windows for a write to a bank register (R98); the sprite table for a write to the DMA trigger (R66). -/
def storeReaches (bank : BankState) (addr x : Word) : Prop :=
  if addr.toNat < 0x8000 then x.toNat < 0x8000 ∨ (0xA000 ≤ x.toNat ∧ x.toNat < 0xC000)
  else homeAddress bank x.toNat = homeAddress bank addr.toNat ∨
    (addr = 0xFF46 ∧ 0xFE00 ≤ x.toNat ∧ x.toNat < 0xFEA0)

/-- Whether an address is plain storage: what is written there is read back, and nothing else happens. Video RAM, work
RAM and its echo, OAM, high RAM, and external RAM that is enabled, present and 8 bits wide (R179). -/
def plainStorage (s : State) (addr : Word) : Prop :=
  let n := addr.toNat
  (0x8000 ≤ n ∧ n < 0xA000) ∨ (0xC000 ≤ n ∧ n < 0xFEA0) ∨ (0xFF80 ≤ n ∧ n < 0xFFFF) ∨
    (0xA000 ≤ n ∧ n < 0xC000 ∧ (∀ m, s.bank ≠ .mbc2 m) ∧ ∃ i, extRamIndex s.bank n = some i ∧ i < s.mem.extRamSize)

/-! What the rules say of results and flags, on natural numbers and single bits. -/

/-- The result and flags of `a + v + cin` (R187, R188). -/
def AddResult (a v : Byte) (cin : Nat) (r : Byte) (f : Flags) : Prop :=
  r.toNat = (a.toNat + v.toNat + cin) % 256 ∧ (f.z = true ↔ r.toNat = 0) ∧ f.n = false ∧
    (f.h = true ↔ a.toNat % 16 + v.toNat % 16 + cin > 0x0F) ∧ (f.c = true ↔ a.toNat + v.toNat + cin > 0xFF)

/-- The result and flags of `a - v - cin` (R189, R190, R194). -/
def SubResult (a v : Byte) (cin : Nat) (r : Byte) (f : Flags) : Prop :=
  r.toNat = (a.toNat + 512 - v.toNat - cin) % 256 ∧ (f.z = true ↔ r.toNat = 0) ∧ f.n = true ∧
    (f.h = true ↔ a.toNat % 16 < v.toNat % 16 + cin) ∧ (f.c = true ↔ a.toNat < v.toNat + cin)

/-- The flags of a logical operation, H as given (R191 to R193). -/
def LogicFlags (r : Byte) (h : Bool) (f : Flags) : Prop :=
  (f.z = true ↔ r.toNat = 0) ∧ f.n = false ∧ f.h = h ∧ f.c = false

/-- The carry flag as a number. -/
def carryOf (f : Flags) : Nat := if f.c then 1 else 0

/-- The bits of a rotate's or shift's result and the bit that goes to C (R235 to R242). -/
def RotBits (op : RotOp) (o : Byte) (cin : Bool) (v : Byte) (cout : Bool) : Prop :=
  match op with
  | .rlc => (∀ i < 8, v.getLsbD i = o.getLsbD ((i + 7) % 8)) ∧ cout = o.getLsbD 7
  | .rrc => (∀ i < 8, v.getLsbD i = o.getLsbD ((i + 1) % 8)) ∧ cout = o.getLsbD 0
  | .rl => v.getLsbD 0 = cin ∧ (∀ i < 7, v.getLsbD (i + 1) = o.getLsbD i) ∧ cout = o.getLsbD 7
  | .rr => v.getLsbD 7 = cin ∧ (∀ i < 7, v.getLsbD i = o.getLsbD (i + 1)) ∧ cout = o.getLsbD 0
  | .sla => v.getLsbD 0 = false ∧ (∀ i < 7, v.getLsbD (i + 1) = o.getLsbD i) ∧ cout = o.getLsbD 7
  | .sra => v.getLsbD 7 = o.getLsbD 7 ∧ (∀ i < 7, v.getLsbD i = o.getLsbD (i + 1)) ∧ cout = o.getLsbD 0
  | .swap => (∀ i < 8, v.getLsbD i = o.getLsbD ((i + 4) % 8)) ∧ cout = false
  | .srl => v.getLsbD 7 = false ∧ (∀ i < 7, v.getLsbD i = o.getLsbD (i + 1)) ∧ cout = o.getLsbD 0

/-- A number below 100 in packed BCD (R205). -/
def bcd (x : Nat) : Byte := BitVec.ofNat 8 (16 * (x / 10) + x % 10)

/-- `Push16(v)` as R170 writes it: the high byte at `SP - 1`, then the low byte at `SP - 2`. -/
def pushed (s : State) (v : Word) : State :=
  let s1 := { s with sp := s.sp - 1 }.writeByte (s.sp - 1) (v.extractLsb' 8 8)
  { s1 with sp := s.sp - 2 }.writeByte (s.sp - 2) (v.extractLsb' 0 8)

/-- The word `Pop16()` gives: the byte at `SP` low, the byte above it high (R170). -/
def stackTop (s : State) : Word := s.readByte (s.sp + 1) ++ s.readByte s.sp

/-- A word's two bytes as they lie in memory and in an instruction, low byte first (R70, R71). -/
def wordBytes (v : Word) : List Byte := [v.extractLsb' 0 8, v.extractLsb' 8 8]

/-- The colour index 0 to 3 at a row and a column of the tile whose data begins at an address, its bytes named by the values `readByte` gives there:
two bytes a row, the low bit plane first, the leftmost column in bit 7 (R391). -/
def tileColour (s : State) (data row col : Nat) : Nat :=
  (if (s.readByte (BitVec.ofNat 16 (data + 2 * row + 1))).getLsbD (7 - col) then 2 else 0) +
    (if (s.readByte (BitVec.ofNat 16 (data + 2 * row))).getLsbD (7 - col) then 1 else 0)

/-- The 16-bit counter of cycles that `DIV` and `DivAcc` make (R341). -/
def dividerCounter (s : State) : Nat := s.div.toNat * 256 + s.divAcc

/-- The codes of the 8-bit operands in an opcode byte (R123). -/
def regCode : Reg8 → Nat
  | .b => 0 | .c => 1 | .d => 2 | .e => 3 | .h => 4 | .l => 5 | .a => 7

/-- The code of `r[i]` (R123). -/
def operandCode : Operand8 → Nat
  | .reg r => regCode r
  | .indHL => 6

/-- The codes of the pairs (R124). -/
def pairCode : Reg16 → Nat
  | .bc => 0 | .de => 1 | .hl => 2 | .sp => 3

/-- The codes of the stack pairs (R125). -/
def stackCode : StackReg → Nat
  | .bc => 0 | .de => 1 | .hl => 2 | .af => 3

/-- The codes of the conditions (R126). -/
def condCode : Cond → Nat
  | .nz => 0 | .z => 1 | .nc => 2 | .c => 3

/-- The codes of the ALU operations (R126). -/
def aluCode : AluOp → Nat
  | .add => 0 | .adc => 1 | .sub => 2 | .sbc => 3 | .and => 4 | .xor => 5 | .or => 6 | .cp => 7

/-- The codes of the rotates and shifts (R126). -/
def rotCode : RotOp → Nat
  | .rlc => 0 | .rrc => 1 | .rl => 2 | .rr => 3 | .sla => 4 | .sra => 5 | .swap => 6 | .srl => 7

/-- An opcode byte by its fields `x`, `y`, `z` (R121). -/
def opcodeByte (x y z : Nat) : Byte := BitVec.ofNat 8 (64 * x + 8 * y + z)

end Sys2Proof.Machine
end

