-- ==== Sys2Proof/Certificates/Slice0/Obligations.lean ====
section
/-! DEFINITION. The statements for the provers, each one sentence of the spec or a law of the whole machine. -/

open Sys2Proof Sys2Proof.Machine

/-! Encoding. -/

/-- Words written out from the encodings of the rules, one or more of every family, decode to what they stand for. -/
def Obligations.WordsOfTheTablesDecode : Prop :=
  decode [0x3E, 0x42] = .ok (.ldAN8 0x42, []) ∧ decode [0x66] = .ok (.ldHIndHL, []) ∧
  decode [0x21, 0x34, 0x12] = .ok (.ldHLN16 0x1234, []) ∧ decode [0xF5] = .ok (.pushAF, []) ∧
  decode [0x93] = .ok (.subE, []) ∧ decode [0xE6, 0x3F] = .ok (.andN8 0x3F, []) ∧ decode [0x27] = .ok (.daa, []) ∧
  decode [0x09] = .ok (.addHLBC, []) ∧ decode [0xE8, 0xFE] = .ok (.addSPE8 0xFE, []) ∧
  decode [0xCB, 0x37] = .ok (.swapA, []) ∧ decode [0xCB, 0x65] = .ok (.bit4L, []) ∧
  decode [0xC2, 0x00, 0x02] = .ok (.jpNZA16 0x0200, []) ∧ decode [0x18, 0x05] = .ok (.jrE8 0x05, []) ∧
  decode [0xEF] = .ok (.rst28, []) ∧ decode [0x76] = .ok (.halt, []) ∧ decode [0xDD] = .ok (.illegalDD, [])

/-- Decoding the encoding of a well-formed instruction gives the instruction back, with every operand at every value, and
leaves what follows it. -/
def Obligations.DecodingAnEncodingGivesTheInstruction : Prop :=
  ∀ (i : Instr) (rest : List Byte), WellFormed i → decode (encode i ++ rest) = .ok (i, rest)

/-- Every instruction read off a list of bytes encodes to just the bytes that were read: a word has one meaning. -/
def Obligations.EncodingADecodedInstructionGivesTheBytes : Prop :=
  ∀ (bytes rest : List Byte) (i : Instr), decode bytes = .ok (i, rest) → encode i ++ rest = bytes

/-- R122: three bytes always decode to a well-formed instruction, whose length the first byte alone fixes. -/
def Obligations.OpcodeAloneFixesTheLength : Prop :=
  (∀ (b0 b1 b2 : Byte) (rest : List Byte), ∃ i, WellFormed i ∧
    decode (b0 :: b1 :: b2 :: rest) = .ok (i, (b0 :: b1 :: b2 :: rest).drop (baseLength b0)) ∧
    (encode i).length = baseLength b0) ∧
  baseLength 0xCB = 2

/-! The step. -/

/-- A step of a processor that is not halted runs the instruction that its bytes at `PC` decode to, then lets the devices
catch up and interrupts be looked at (`catchUp`); the host's change of the buttons comes first (`takeInput`; the queue it
reads is the model's choice, log 4). Under the halt bug the opcode byte is also the first operand byte
(`pcAfterOpcode`): that operand fetches always advance is the spec's decision D33. A halted processor fetches nothing and
reports 4 cycles: the spec's decision D6. R305 to R307: catching up is the countdown of EI, the timer, the picture unit,
the joypad and the sound unit, which changes nothing but itself (R440), each by the reported cycles, then the interrupt
check, and where that takes cycles the same devices by those; the clock counts both. The order of the devices is the spec's
decision D9, the countdown its D8, the devices' share in the cycles of a dispatch its D10. -/
def Obligations.StepRunsTheDecodedInstruction : Prop :=
  (∀ (s : State) (i : Instr) (rest : List Byte),
    s.halted = false →
    decode [s.readByte s.pc, s.readByte s.pcAfterOpcode, s.readByte (s.pcAfterOpcode + 1)] = .ok (i, rest) →
    step s =
      match exec i (takeInput s) with
      | .next t => .next (catchUp t)
      | .fault e => .fault e
      | .refused e => .refused e) ∧
  (∀ s : State, s.halted = true → step s = .next (catchUp ((takeInput s).reports 4))) ∧
  (∀ (t ticked caught checked : State) (d : Nat),
    ticked = (if t.imeDelay = 2 then { t with imeDelay := 1 }
      else if t.imeDelay = 1 then { t with imeDelay := 0, ime := true } else t) →
    caught = apuStep t.cycles (joypadStep (ppuStep t.cycles (timerStep t.cycles ticked))) →
    interruptCheck caught = (checked, d) →
    catchUp t =
      { (if d = 0 then checked else apuStep d (joypadStep (ppuStep d (timerStep d checked)))) with
        clock := t.clock + t.cycles + d }) ∧
  (∀ (c : Nat) (s : State), ∃ sound : Apu, apuStep c s = { s with apu := sound })

/-- R280: a fetch moves `PC` past the opcode unless the halt bug is set, which it clears; the operand bytes always move
it. That operand fetches always advance is the spec's decision D33. -/
def Obligations.FetchAdvancesPcUnlessHaltBug : Prop :=
  ∀ (s : State) (operands : Nat), s.fetched operands =
    { s with pc := (if s.haltBug = true then s.pc else s.pc + 1) + BitVec.ofNat 16 operands, haltBug := false }

/-! The 8-bit loads. -/

/-- R140, R141, R143: the loads of a register, with their encodings and cycles; `(HL)` is read at the old `HL`. -/
def Obligations.LoadsIntoRegisters : Prop :=
  ∀ (s : State) (dst src : Reg8) (n : Byte),
    encode (.load dst src) = [opcodeByte 1 (regCode dst) (regCode src)] ∧
    exec (.load dst src) s = .next (((s.fetched 0).setReg dst (s.reg src)).reports 4) ∧
    encode (.loadIndHL dst) = [opcodeByte 1 (regCode dst) 6] ∧
    exec (.loadIndHL dst) s = .next (((s.fetched 0).setReg dst (s.readByte (s.h ++ s.l))).reports 8) ∧
    encode (.loadImm dst n) = [opcodeByte 0 (regCode dst) 6, n] ∧
    exec (.loadImm dst n) s = .next (((s.fetched 1).setReg dst n).reports 8)

/-- R144, R145, R149, R151, R153, R156, R158: the loads of `A` from memory; `(HL+)` and `(HL-)` read at the old `HL` and
then move it by one. -/
def Obligations.LoadsOfAFromMemory : Prop :=
  ∀ (s : State) (n : Byte) (addr : Word),
    encode .ldAIndBC = [0x0A] ∧
    exec .ldAIndBC s = .next { s.fetched 0 with a := s.readByte (s.b ++ s.c), cycles := 8 } ∧
    encode .ldAIndDE = [0x1A] ∧
    exec .ldAIndDE s = .next { s.fetched 0 with a := s.readByte (s.d ++ s.e), cycles := 8 } ∧
    encode (.ldAIndA16 addr) = 0xFA :: wordBytes addr ∧
    exec (.ldAIndA16 addr) s = .next { s.fetched 2 with a := s.readByte addr, cycles := 16 } ∧
    encode (.ldhAIndA8 n) = [0xF0, n] ∧
    exec (.ldhAIndA8 n) s = .next { s.fetched 1 with a := s.readByte (0xFF00 + n.setWidth 16), cycles := 12 } ∧
    encode .ldAIndC = [0xF2] ∧
    exec .ldAIndC s = .next { s.fetched 0 with a := s.readByte (0xFF00 + s.c.setWidth 16), cycles := 8 } ∧
    encode .ldAIndHLInc = [0x2A] ∧
    exec .ldAIndHLInc s =
      .next (({ s.fetched 0 with a := s.readByte (s.h ++ s.l) }.setReg16 .hl ((s.h ++ s.l) + 1)).reports 8) ∧
    encode .ldAIndHLDec = [0x3A] ∧
    exec .ldAIndHLDec s =
      .next (({ s.fetched 0 with a := s.readByte (s.h ++ s.l) }.setReg16 .hl ((s.h ++ s.l) - 1)).reports 8)

/-- R142, R148, R146, R147, R154, R150, R152, R155, R157: the loads that store one byte; `(HL+)` and `(HL-)` store at the
old `HL` and then move it by one. -/
def Obligations.LoadsIntoMemory : Prop :=
  ∀ (s : State) (src : Reg8) (n : Byte) (addr : Word),
    encode (.storeIndHL src) = [opcodeByte 1 6 (regCode src)] ∧
    exec (.storeIndHL src) s = .next (((s.fetched 0).writeByte (s.h ++ s.l) (s.reg src)).reports 8) ∧
    encode (.ldIndHLN8 n) = [0x36, n] ∧
    exec (.ldIndHLN8 n) s = .next (((s.fetched 1).writeByte (s.h ++ s.l) n).reports 12) ∧
    encode .ldIndBCA = [0x02] ∧
    exec .ldIndBCA s = .next (((s.fetched 0).writeByte (s.b ++ s.c) s.a).reports 8) ∧
    encode .ldIndDEA = [0x12] ∧
    exec .ldIndDEA s = .next (((s.fetched 0).writeByte (s.d ++ s.e) s.a).reports 8) ∧
    encode (.ldIndA16A addr) = 0xEA :: wordBytes addr ∧
    exec (.ldIndA16A addr) s = .next (((s.fetched 2).writeByte addr s.a).reports 16) ∧
    encode (.ldhIndA8A n) = [0xE0, n] ∧
    exec (.ldhIndA8A n) s = .next (((s.fetched 1).writeByte (0xFF00 + n.setWidth 16) s.a).reports 12) ∧
    encode .ldIndCA = [0xE2] ∧
    exec .ldIndCA s = .next (((s.fetched 0).writeByte (0xFF00 + s.c.setWidth 16) s.a).reports 8) ∧
    encode .ldIndHLIncA = [0x22] ∧
    exec .ldIndHLIncA s =
      .next ((((s.fetched 0).writeByte (s.h ++ s.l) s.a).setReg16 .hl ((s.h ++ s.l) + 1)).reports 8) ∧
    encode .ldIndHLDecA = [0x32] ∧
    exec .ldIndHLDecA s =
      .next ((((s.fetched 0).writeByte (s.h ++ s.l) s.a).setReg16 .hl ((s.h ++ s.l) - 1)).reports 8)

/-! The 16-bit loads and the stack. -/

/-- R11, R123, R124: writing a register or a pair writes just its own halves, and reading a pair puts its halves
together. -/
def Obligations.PairsAreViewsOfTheirHalves : Prop :=
  ∀ (s : State) (r q : Reg8) (v : Byte) (w : Word),
    (s.setReg r v).reg q = (if q = r then v else s.reg q) ∧
    s.reg16 .bc = s.b ++ s.c ∧ s.reg16 .de = s.d ++ s.e ∧ s.reg16 .hl = s.h ++ s.l ∧ s.reg16 .sp = s.sp ∧
    s.setReg16 .bc w = { s with b := w.extractLsb' 8 8, c := w.extractLsb' 0 8 } ∧
    s.setReg16 .de w = { s with d := w.extractLsb' 8 8, e := w.extractLsb' 0 8 } ∧
    s.setReg16 .hl w = { s with h := w.extractLsb' 8 8, l := w.extractLsb' 0 8 } ∧
    s.setReg16 .sp w = { s with sp := w } ∧
    (∀ p : Reg16, (s.setReg16 p w).reg16 p = w)

/-- R171, R172, R173: the 16-bit loads; `LD (a16),SP` writes the low byte first. -/
def Obligations.SixteenBitLoads : Prop :=
  ∀ (s : State) (p : Reg16) (n : Word),
    encode (.loadImm16 p n) = opcodeByte 0 (2 * pairCode p) 1 :: wordBytes n ∧
    exec (.loadImm16 p n) s = .next (((s.fetched 2).setReg16 p n).reports 12) ∧
    encode (.ldIndA16SP n) = 0x08 :: wordBytes n ∧
    exec (.ldIndA16SP n) s = .next
      ((((s.fetched 2).writeByte n (s.sp.extractLsb' 0 8)).writeByte (n + 1) (s.sp.extractLsb' 8 8)).reports 20) ∧
    encode .ldSPHL = [0xF9] ∧
    exec .ldSPHL s = .next { s.fetched 0 with sp := s.h ++ s.l, cycles := 8 }

/-- R170, R174 to R177: PUSH stores the high byte at `SP - 1` and the low byte at `SP - 2`; POP reads the low byte at
`SP` and the high byte above it; `F` is pushed in bits 7 to 4 over zeros and popped from them. That the high byte is
stored first is the spec's decision D29. -/
def Obligations.PushAndPop : Prop :=
  ∀ (s : State) (p : StackReg) (f : Flags) (w : Word),
    encode (.push p) = [opcodeByte 3 (2 * stackCode p) 5] ∧
    exec (.push p) s = .next ((pushed (s.fetched 0) (s.stackReg p)).reports 16) ∧
    encode (.pop p) = [opcodeByte 3 (2 * stackCode p) 1] ∧
    exec (.pop p) s = .next (({ s.fetched 0 with sp := s.sp + 2 }.setStackReg p (stackTop s)).reports 12) ∧
    (∀ q : Reg16, q ≠ .sp → s.stackReg (match q with | .bc => .bc | .de => .de | _ => .hl) = s.reg16 q) ∧
    s.stackReg .af = s.a ++ s.f.toByte ∧
    s.setStackReg .af w = { s with a := w.extractLsb' 8 8, f := flagsOfByte (w.extractLsb' 0 8) } ∧
    f.toByte.toNat % 16 = 0 ∧ flagsOfByte f.toByte = f ∧
    f.toByte.getLsbD 7 = f.z ∧ f.toByte.getLsbD 6 = f.n ∧ f.toByte.getLsbD 5 = f.h ∧ f.toByte.getLsbD 4 = f.c

/-- A PUSH on plain storage followed by a POP of any pair gives the pushed word back, `F` included, and `SP` is where it
was. -/
def Obligations.PushThenPopGivesTheWordBack : Prop :=
  ∀ (s t u : State) (p q : StackReg),
    plainStorage s (s.sp - 1) → plainStorage s (s.sp - 2) →
    exec (.push p) s = .next t → exec (.pop q) t = .next u →
    (q ≠ .af → u.stackReg q = s.stackReg p) ∧ (q = .af → p = .af → u.a = s.a ∧ u.f = s.f) ∧
      t.sp = s.sp - 2 ∧ u.sp = s.sp

/-- R178, R224: `SP + e8` takes the operand as signed, while H and C come from the unsigned sum of the low byte; Z and
N are cleared. H and C from the low byte are the spec's decision D28. -/
def Obligations.SignedOffsetsOfSP : Prop :=
  ∀ (s : State) (e : Byte), ∃ f : Flags,
    f.z = false ∧ f.n = false ∧ (f.h = true ↔ s.sp.toNat % 16 + e.toNat % 16 > 0x0F) ∧
    (f.c = true ↔ s.sp.toNat % 256 + e.toNat > 0xFF) ∧
    encode (.ldHLSPE8 e) = [0xF8, e] ∧
    exec (.ldHLSPE8 e) s = .next (({ s.fetched 1 with f := f }.setHL (s.sp + e.signExtend 16)).reports 12) ∧
    encode (.addSPE8 e) = [0xE8, e] ∧
    exec (.addSPE8 e) s = .next { s.fetched 1 with f := f, sp := s.sp + e.signExtend 16, cycles := 16 }

/-! Arithmetic and logic. -/

/-- R186, R187, R188: ADD and ADC on every operand form, with result, flags, encoding and cycles. -/
def Obligations.AddAndAdc : Prop :=
  ∀ (s : State) (o : Operand8) (n : Byte), ∃ (r1 r2 r3 r4 : Byte) (f1 f2 f3 f4 : Flags),
    AddResult s.a (s.operand o) 0 r1 f1 ∧ encode (.alu .add o) = [opcodeByte 2 0 (operandCode o)] ∧
    exec (.alu .add o) s = .next { s.fetched 0 with a := r1, f := f1, cycles := if o = Operand8.indHL then 8 else 4 } ∧
    AddResult s.a n 0 r2 f2 ∧ encode (.aluImm .add n) = [0xC6, n] ∧
    exec (.aluImm .add n) s = .next { s.fetched 1 with a := r2, f := f2, cycles := 8 } ∧
    AddResult s.a (s.operand o) (carryOf s.f) r3 f3 ∧ encode (.alu .adc o) = [opcodeByte 2 1 (operandCode o)] ∧
    exec (.alu .adc o) s = .next { s.fetched 0 with a := r3, f := f3, cycles := if o = Operand8.indHL then 8 else 4 } ∧
    AddResult s.a n (carryOf s.f) r4 f4 ∧ encode (.aluImm .adc n) = [0xCE, n] ∧
    exec (.aluImm .adc n) s = .next { s.fetched 1 with a := r4, f := f4, cycles := 8 }

/-- R186, R189, R190, R194: SUB, SBC and CP on every operand form; CP leaves `A`. -/
def Obligations.SubSbcAndCp : Prop :=
  ∀ (s : State) (o : Operand8) (n : Byte), ∃ (r1 r2 r3 r4 : Byte) (f1 f2 f3 f4 : Flags),
    SubResult s.a (s.operand o) 0 r1 f1 ∧ encode (.alu .sub o) = [opcodeByte 2 2 (operandCode o)] ∧
    exec (.alu .sub o) s = .next { s.fetched 0 with a := r1, f := f1, cycles := if o = Operand8.indHL then 8 else 4 } ∧
    encode (.alu .cp o) = [opcodeByte 2 7 (operandCode o)] ∧
    exec (.alu .cp o) s = .next { s.fetched 0 with f := f1, cycles := if o = Operand8.indHL then 8 else 4 } ∧
    SubResult s.a n 0 r2 f2 ∧ encode (.aluImm .sub n) = [0xD6, n] ∧
    exec (.aluImm .sub n) s = .next { s.fetched 1 with a := r2, f := f2, cycles := 8 } ∧
    encode (.aluImm .cp n) = [0xFE, n] ∧
    exec (.aluImm .cp n) s = .next { s.fetched 1 with f := f2, cycles := 8 } ∧
    SubResult s.a (s.operand o) (carryOf s.f) r3 f3 ∧ encode (.alu .sbc o) = [opcodeByte 2 3 (operandCode o)] ∧
    exec (.alu .sbc o) s = .next { s.fetched 0 with a := r3, f := f3, cycles := if o = Operand8.indHL then 8 else 4 } ∧
    SubResult s.a n (carryOf s.f) r4 f4 ∧ encode (.aluImm .sbc n) = [0xDE, n] ∧
    exec (.aluImm .sbc n) s = .next { s.fetched 1 with a := r4, f := f4, cycles := 8 }

/-- R186, R191, R192, R193: AND, XOR and OR on every operand form; AND sets H, the others clear it. -/
def Obligations.AndXorOr : Prop :=
  ∀ (s : State) (o : Operand8) (n : Byte), ∃ (f1 f2 f3 f4 f5 f6 : Flags),
    LogicFlags (s.a &&& s.operand o) true f1 ∧ encode (.alu .and o) = [opcodeByte 2 4 (operandCode o)] ∧
    exec (.alu .and o) s =
      .next { s.fetched 0 with a := s.a &&& s.operand o, f := f1, cycles := if o = Operand8.indHL then 8 else 4 } ∧
    LogicFlags (s.a &&& n) true f2 ∧ encode (.aluImm .and n) = [0xE6, n] ∧
    exec (.aluImm .and n) s = .next { s.fetched 1 with a := s.a &&& n, f := f2, cycles := 8 } ∧
    LogicFlags (s.a ^^^ s.operand o) false f3 ∧ encode (.alu .xor o) = [opcodeByte 2 5 (operandCode o)] ∧
    exec (.alu .xor o) s =
      .next { s.fetched 0 with a := s.a ^^^ s.operand o, f := f3, cycles := if o = Operand8.indHL then 8 else 4 } ∧
    LogicFlags (s.a ^^^ n) false f4 ∧ encode (.aluImm .xor n) = [0xEE, n] ∧
    exec (.aluImm .xor n) s = .next { s.fetched 1 with a := s.a ^^^ n, f := f4, cycles := 8 } ∧
    LogicFlags (s.a ||| s.operand o) false f5 ∧ encode (.alu .or o) = [opcodeByte 2 6 (operandCode o)] ∧
    exec (.alu .or o) s =
      .next { s.fetched 0 with a := s.a ||| s.operand o, f := f5, cycles := if o = Operand8.indHL then 8 else 4 } ∧
    LogicFlags (s.a ||| n) false f6 ∧ encode (.aluImm .or n) = [0xF6, n] ∧
    exec (.aluImm .or n) s = .next { s.fetched 1 with a := s.a ||| n, f := f6, cycles := 8 }

/-- R201 to R204: INC and DEC of a register or of the byte at `HL`; the flags come from the value read and C is kept. -/
def Obligations.IncAndDecOfBytes : Prop :=
  ∀ (s : State) (o : Operand8), ∃ (v w : Byte) (f g : Flags),
    v.toNat = ((s.operand o).toNat + 1) % 256 ∧ (f.z = true ↔ v.toNat = 0) ∧ f.n = false ∧
    (f.h = true ↔ (s.operand o).toNat % 16 = 0x0F) ∧ f.c = s.f.c ∧
    encode (.inc o) = [opcodeByte 0 (operandCode o) 4] ∧
    exec (.inc o) s =
      .next (({ s.fetched 0 with f := f }.setOperand o v).reports (if o = Operand8.indHL then 12 else 4)) ∧
    w.toNat = ((s.operand o).toNat + 255) % 256 ∧ (g.z = true ↔ w.toNat = 0) ∧ g.n = true ∧
    (g.h = true ↔ (s.operand o).toNat % 16 = 0) ∧ g.c = s.f.c ∧
    encode (.dec o) = [opcodeByte 0 (operandCode o) 5] ∧
    exec (.dec o) s =
      .next (({ s.fetched 0 with f := g }.setOperand o w).reports (if o = Operand8.indHL then 12 else 4))

/-- R205 to R208: the two branches of DAA, on natural numbers, and CPL, SCF and CCF. -/
def Obligations.DaaCplScfCcf : Prop :=
  encode .daa = [0x27] ∧ encode .cpl = [0x2F] ∧ encode .scf = [0x37] ∧ encode .ccf = [0x3F] ∧
  (∀ s : State,
    exec .cpl s = .next { s.fetched 0 with a := s.a ^^^ 0xFF, f := { s.f with n := true, h := true }, cycles := 4 } ∧
    exec .scf s = .next { s.fetched 0 with f := { s.f with n := false, h := false, c := true }, cycles := 4 } ∧
    exec .ccf s = .next { s.fetched 0 with f := { s.f with n := false, h := false, c := !s.f.c }, cycles := 4 }) ∧
  ∀ s : State, ∃ (r : Byte) (f : Flags),
    exec .daa s = .next { s.fetched 0 with a := r, f := f, cycles := 4 } ∧
    (f.z = true ↔ r.toNat = 0) ∧ f.n = s.f.n ∧ f.h = false ∧
    (s.f.n = false →
      ∀ high low : Nat, high = (if s.f.c = true ∨ s.a.toNat > 0x99 then 0x60 else 0) →
        low = (if s.f.h = true ∨ s.a.toNat % 16 > 0x09 then 0x06 else 0) →
        r.toNat = (s.a.toNat + high + low) % 256 ∧ (f.c = true ↔ s.f.c = true ∨ s.a.toNat > 0x99)) ∧
    (s.f.n = true →
      r.toNat = (s.a.toNat + 512 - (if s.f.c = true then 0x60 else 0) - (if s.f.h = true then 0x06 else 0)) % 256 ∧
        f.c = s.f.c)

/-- DAA after an addition or a subtraction of two packed BCD numbers gives the BCD sum or difference, with the decimal
carry or borrow in C: what "decimal adjust after an addition or subtraction of packed BCD operands" means. -/
def Obligations.DaaAdjustsDecimalArithmetic : Prop :=
  ∀ (s t u : State) (x y : Nat), x < 100 → y < 100 → s.a = bcd x →
    (exec (.aluImm .add (bcd y)) s = .next t → exec .daa t = .next u →
      u.a = bcd ((x + y) % 100) ∧ (u.f.c = true ↔ x + y ≥ 100)) ∧
    (exec (.aluImm .adc (bcd y)) s = .next t → exec .daa t = .next u →
      u.a = bcd ((x + y + carryOf s.f) % 100) ∧ (u.f.c = true ↔ x + y + carryOf s.f ≥ 100)) ∧
    (exec (.aluImm .sub (bcd y)) s = .next t → exec .daa t = .next u →
      u.a = bcd ((x + 100 - y) % 100) ∧ (u.f.c = true ↔ x < y)) ∧
    (exec (.aluImm .sbc (bcd y)) s = .next t → exec .daa t = .next u →
      u.a = bcd ((x + 200 - y - carryOf s.f) % 100) ∧ (u.f.c = true ↔ x < y + carryOf s.f))

/-- R221, R222, R223: the 16-bit additions; ADD HL takes H from bit 11 and C from bit 15 and keeps Z, INC and DEC of a
pair change no flag. -/
def Obligations.SixteenBitArithmetic : Prop :=
  ∀ (s : State) (p : Reg16), ∃ (r : Word) (f : Flags),
    r.toNat = ((s.reg16 .hl).toNat + (s.reg16 p).toNat) % 65536 ∧ f.z = s.f.z ∧ f.n = false ∧
    (f.h = true ↔ (s.reg16 .hl).toNat % 4096 + (s.reg16 p).toNat % 4096 > 0x0FFF) ∧
    (f.c = true ↔ (s.reg16 .hl).toNat + (s.reg16 p).toNat > 0xFFFF) ∧
    encode (.addHL p) = [opcodeByte 0 (2 * pairCode p + 1) 1] ∧
    exec (.addHL p) s = .next (({ s.fetched 0 with f := f }.setReg16 .hl r).reports 8) ∧
    encode (.incReg16 p) = [opcodeByte 0 (2 * pairCode p) 3] ∧
    exec (.incReg16 p) s = .next (((s.fetched 0).setReg16 p (s.reg16 p + 1)).reports 8) ∧
    encode (.decReg16 p) = [opcodeByte 0 (2 * pairCode p + 1) 3] ∧
    exec (.decReg16 p) s = .next (((s.fetched 0).setReg16 p (s.reg16 p - 1)).reports 8)

/-! Rotates, shifts and bits. -/

/-- R231 to R234 and R235 to R242: the rotates of `A` in the base table, which always clear Z, and the rotates and shifts
of the second table on every operand, whose result is always written back; bit by bit. -/
def Obligations.RotatesAndShifts : Prop :=
  (∀ (s : State) (op : RotOp) (o : Operand8), ∃ (v : Byte) (c z : Bool),
    RotBits op (s.operand o) s.f.c v c ∧ (z = true ↔ v.toNat = 0) ∧
    encode (.rotate op o) = [0xCB, opcodeByte 0 (rotCode op) (operandCode o)] ∧
    exec (.rotate op o) s =
      .next (({ s.fetched 1 with f := { z := z, n := false, h := false, c := c } }.setOperand o v).reports
        (if o = Operand8.indHL then 16 else 8))) ∧
  (∀ x ∈ [(RotOp.rlc, Instr.rlca, (0x07 : Byte)), (.rrc, .rrca, 0x0F), (.rl, .rla, 0x17), (.rr, .rra, 0x1F)],
    encode x.2.1 = [x.2.2] ∧
    ∀ s : State, ∃ (v : Byte) (c : Bool), RotBits x.1 s.a s.f.c v c ∧
      exec x.2.1 s =
        .next { s.fetched 0 with a := v, f := { z := false, n := false, h := false, c := c }, cycles := 4 })

/-- R243, R244, R245: BIT tests and writes no operand, RES and SET change the one bit and no flag. -/
def Obligations.BitResAndSet : Prop :=
  ∀ (s : State) (b : Index8) (o : Operand8), ∃ v w : Byte,
    (∀ i < 8, v.getLsbD i = if i = b.toNat then false else (s.operand o).getLsbD i) ∧
    (∀ i < 8, w.getLsbD i = if i = b.toNat then true else (s.operand o).getLsbD i) ∧
    encode (.testBit b o) = [0xCB, opcodeByte 1 b.toNat (operandCode o)] ∧
    exec (.testBit b o) s = .next
      { s.fetched 1 with
        f := { z := !(s.operand o).getLsbD b.toNat, n := false, h := true, c := s.f.c }
        cycles := if o = Operand8.indHL then 12 else 8 } ∧
    encode (.resetBit b o) = [0xCB, opcodeByte 2 b.toNat (operandCode o)] ∧
    exec (.resetBit b o) s = .next (((s.fetched 1).setOperand o v).reports (if o = Operand8.indHL then 16 else 8)) ∧
    encode (.setBit b o) = [0xCB, opcodeByte 3 b.toNat (operandCode o)] ∧
    exec (.setBit b o) s = .next (((s.fetched 1).setOperand o w).reports (if o = Operand8.indHL then 16 else 8))

/-- The prefix and the byte after it are one instruction, the entry of the second table, and every second byte is one:
running the prefix at `PC` is running that entry. R287 says that the prefix is no instruction by itself; a constructor
for its row of the opcode table, with this meaning, is the model's choice (log 8). That under the halt bug the second byte
is the prefix byte again (`pcAfterOpcode`) is the spec's decision D33. -/
def Obligations.PrefixRunsTheSecondTable : Prop :=
  ∀ s : State, ∃ i : Instr,
    encode i = [0xCB, s.readByte s.pcAfterOpcode] ∧ WellFormed i ∧
    decode [0xCB, s.readByte s.pcAfterOpcode] = .ok (i, []) ∧
    exec .prefixCB s = exec i s ∧ ∃ t, exec .prefixCB s = .next t

/-! Control transfer. -/

/-- R260 to R265: the jumps; a displacement is taken from the address after the instruction, a jump not taken only goes
on, and no flag changes. -/
def Obligations.Jumps : Prop :=
  ∀ (s : State) (cc : Cond) (addr : Word) (e : Byte),
    (condHolds .nz s.f = true ↔ s.f.z = false) ∧ (condHolds .z s.f = true ↔ s.f.z = true) ∧
    (condHolds .nc s.f = true ↔ s.f.c = false) ∧ (condHolds .c s.f = true ↔ s.f.c = true) ∧
    encode (.jpA16 addr) = 0xC3 :: wordBytes addr ∧
    exec (.jpA16 addr) s = .next { s.fetched 2 with pc := addr, cycles := 16 } ∧
    encode (.jumpIf cc addr) = opcodeByte 3 (condCode cc) 2 :: wordBytes addr ∧
    exec (.jumpIf cc addr) s = .next
      (if condHolds cc s.f then { s.fetched 2 with pc := addr, cycles := 16 } else (s.fetched 2).reports 12) ∧
    encode .jpHL = [0xE9] ∧
    exec .jpHL s = .next { s.fetched 0 with pc := s.h ++ s.l, cycles := 4 } ∧
    encode (.jrE8 e) = [0x18, e] ∧
    exec (.jrE8 e) s = .next { s.fetched 1 with pc := s.pcAfterOpcode + 1 + e.signExtend 16, cycles := 12 } ∧
    encode (.jumpRelIf cc e) = [opcodeByte 0 (4 + condCode cc) 0, e] ∧
    exec (.jumpRelIf cc e) s = .next
      (if condHolds cc s.f then { s.fetched 1 with pc := s.pcAfterOpcode + 1 + e.signExtend 16, cycles := 12 }
       else (s.fetched 1).reports 8)

/-- R266 to R270, R273: calls push the address after the instruction, returns pop `PC`, RETI also sets `IME` at once.
That the high byte is pushed first is the spec's decision D29, RETI at once its decision D8. -/
def Obligations.CallsAndReturns : Prop :=
  ∀ (s : State) (cc : Cond) (addr : Word) (y : Index8),
    encode (.callA16 addr) = 0xCD :: wordBytes addr ∧
    exec (.callA16 addr) s = .next { pushed (s.fetched 2) (s.pcAfterOpcode + 2) with pc := addr, cycles := 24 } ∧
    encode (.callIf cc addr) = opcodeByte 3 (condCode cc) 4 :: wordBytes addr ∧
    exec (.callIf cc addr) s = .next
      (if condHolds cc s.f then { pushed (s.fetched 2) (s.pcAfterOpcode + 2) with pc := addr, cycles := 24 }
       else (s.fetched 2).reports 12) ∧
    encode .ret = [0xC9] ∧
    exec .ret s = .next { s.fetched 0 with pc := stackTop s, sp := s.sp + 2, cycles := 16 } ∧
    encode (.retIf cc) = [opcodeByte 3 (condCode cc) 0] ∧
    exec (.retIf cc) s = .next
      (if condHolds cc s.f then { s.fetched 0 with pc := stackTop s, sp := s.sp + 2, cycles := 20 }
       else (s.fetched 0).reports 8) ∧
    encode .reti = [0xD9] ∧
    exec .reti s = .next { s.fetched 0 with pc := stackTop s, sp := s.sp + 2, ime := true, cycles := 16 } ∧
    encode (.restart y) = [opcodeByte 3 y.toNat 7] ∧
    exec (.restart y) s = .next
      { pushed (s.fetched 0) s.pcAfterOpcode with pc := BitVec.ofNat 16 (8 * y.toNat), cycles := 16 }

/-! Processor control. -/

/-- R282 to R285, R288, and what EI itself does (R286): NOP and STOP only advance; HALT with `IME = 0` and an interrupt
pending sets the halt bug and does not halt, else the processor halts with `PC` at the HALT; DI acts at once and cancels
an EI under way; EI starts the countdown unless one is under way, with `IME` set too (log 19); an illegal opcode is
logged with its address and only advances. STOP, the meaning of pending, the place of `PC` in a halt, the countdown of
EI and the log are the spec's decisions D5, D7, D6, D8, D31. -/
def Obligations.ProcessorControl : Prop :=
  encode .nop = [0x00] ∧ encode .stop = [0x10] ∧ encode .halt = [0x76] ∧ encode .di = [0xF3] ∧ encode .ei = [0xFB] ∧
  Instr.illegals.map (fun x => x.1) = [0xD3, 0xDB, 0xDD, 0xE3, 0xE4, 0xEB, 0xEC, 0xED, 0xF4, 0xFC, 0xFD] ∧
  ∀ s : State,
    exec .nop s = .next ((s.fetched 0).reports 4) ∧
    exec .stop s = .next ((s.fetched 0).reports 4) ∧
    (s.ime = false → s.ie &&& s.readByte 0xFF0F &&& 0x1F ≠ 0 →
      exec .halt s = .next { s.fetched 0 with haltBug := true, cycles := 4 }) ∧
    (s.ime = true ∨ s.ie &&& s.readByte 0xFF0F &&& 0x1F = 0 →
      exec .halt s = .next { s.fetched 0 with halted := true, pc := s.pc, cycles := 4 }) ∧
    exec .di s = .next { s.fetched 0 with ime := false, imeDelay := 0, cycles := 4 } ∧
    exec .ei s = .next { s.fetched 0 with imeDelay := if s.imeDelay = 0 then 2 else s.imeDelay, cycles := 4 } ∧
    (∀ x ∈ Instr.illegals, encode x.2 = [x.1] ∧
      exec x.2 s = .next { s.fetched 0 with illegalLog := s.illegalLog ++ [(x.1, s.pc)], cycles := 4 })

/-! What no instruction does: the frames, over the whole instruction set. -/

/-- R131, R132: every instruction reports the count of its entry in the cycle tables, the taken or the not-taken number
as its condition says. That the real machine's table is normative is the spec's decision D37. -/
def Obligations.ReportedCyclesAreTheTables : Prop :=
  ∀ (i : Instr) (s t : State), WellFormed i → exec i s = .next t → t.cycles = tableCycles i s.f

/-- R185: every instruction does to each flag what its row of the table says. -/
def Obligations.FlagsChangeAsTheTableSays : Prop :=
  ∀ (i : Instr) (s t : State), WellFormed i → exec i s = .next t →
    (flagRow i).z.allows s.f.z t.f.z ∧ (flagRow i).n.allows s.f.n t.f.n ∧
    (flagRow i).h.allows s.f.h t.f.h ∧ (flagRow i).c.allows s.f.c t.f.c

/-- An instruction changes no 8-bit register but its destination, `SP` only where the spec lists it, and moves `PC` past
itself unless it transfers control or halts. -/
def Obligations.RegistersChangeOnlyAsDestinations : Prop :=
  ∀ (i : Instr) (s t : State), WellFormed i → exec i s = .next t →
    (∀ r : Reg8, r ∉ regsWritten i → t.reg r = s.reg r) ∧
    (writesSp i s.f = false → t.sp = s.sp) ∧
    (((entryOf i).second = true ∨ transfers (entryOf i).op s.f = false) → i ≠ .halt →
      t.pc = s.pcAfterOpcode + BitVec.ofNat 16 ((encode i).length - 1))

/-- An instruction changes no byte of memory but those it stores to, at the addresses `storedTo` computes from the state
before it: every address that no such store reaches reads as before. What a store reaches (`storeReaches`) rests on the
spec's decisions: one to a bank register reaches the bank windows, one to the DMA trigger at once the sprite table (D14);
one to the echo is one to work RAM (conflict C1), one to the RAM of MBC2 reaches its repetitions (D35). -/
def Obligations.MemoryChangesOnlyWhereStored : Prop :=
  ∀ (i : Instr) (s t : State) (x : Word), WellFormed i → exec i s = .next t →
    (∀ addr ∈ storedTo i s, ¬ storeReaches s.bank addr x) → t.readByte x = s.readByte x

/-- No instruction touches the control state that is not its own: `IME` only DI and RETI, its countdown only DI and EI,
`Halted` only HALT; every instruction but HALT leaves the halt bug clear, spent by its fetch; and none touches what of the
devices only time moves. That RETI and DI act on `IME` at once and EI by a countdown is the spec's decision D8. -/
def Obligations.ControlStateChangesOnlyByItsInstructions : Prop :=
  ∀ (i : Instr) (s t : State), WellFormed i → exec i s = .next t →
    (i ≠ .di → i ≠ .reti → t.ime = s.ime) ∧ (i ≠ .di → i ≠ .ei → t.imeDelay = s.imeDelay) ∧
    (i ≠ .halt → t.halted = s.halted ∧ t.haltBug = false) ∧
    t.clock = s.clock ∧ t.timaAcc = s.timaAcc ∧ t.mode = s.mode ∧ t.lineCycles = s.lineCycles ∧
    t.frameBuffer = s.frameBuffer ∧ t.framesReady = s.framesReady ∧ t.buttons = s.buttons ∧
    t.buttonInputs = s.buttonInputs

/-- An instruction changes the bank registers only by a store below 0x8000, `DivAcc` only by one to DIV, the serial trace
only by one to SC, the sound unit only by one to its registers, `IE` only by one to 0xFFFF; only an illegal opcode is
logged. -/
def Obligations.DeviceStateChangesOnlyByItsStores : Prop :=
  ∀ (i : Instr) (s t : State), WellFormed i → exec i s = .next t →
    ((∀ x ∈ storedTo i s, 0x8000 ≤ x.toNat) → t.bank = s.bank) ∧
    (0xFF04 ∉ storedTo i s → t.divAcc = s.divAcc) ∧ (0xFF02 ∉ storedTo i s → t.serialTrace = s.serialTrace) ∧
    ((∀ x ∈ storedTo i s, x.toNat < 0xFF10 ∨ 0xFF40 ≤ x.toNat) → t.apu = s.apu) ∧
    (0xFFFF ∉ storedTo i s → t.ie = s.ie) ∧
    ((∀ x ∈ Instr.illegals, i ≠ x.2) → t.illegalLog = s.illegalLog)

/-! Interrupts. -/

/-- R310, R311, R312, R314: the interrupt check. Nothing pending: nothing happens. Else a halted processor moves past
the HALT and runs, and with `IME = 1` the lowest pending interrupt is dispatched: `PC` pushed, `PC` at 0x40 + 8 i,
`IME` and the request bit cleared in that order, 20 cycles. The meaning of pending is the spec's decision D7, the order
of the pushed bytes its D29. -/
def Obligations.InterruptCheckDispatchesTheLowest : Prop :=
  ∀ (s awake : State), awake = (if s.halted = true then { s with pc := s.pc + 1, halted := false } else s) →
    (s.ie &&& s.readByte 0xFF0F &&& 0x1F = 0 → interruptCheck s = (s, 0)) ∧
    (s.ie &&& s.readByte 0xFF0F &&& 0x1F ≠ 0 → s.ime = false → interruptCheck s = (awake, 0)) ∧
    (∀ i < 5, s.ime = true → (s.ie &&& s.readByte 0xFF0F).getLsbD i = true →
      (∀ j < i, (s.ie &&& s.readByte 0xFF0F).getLsbD j = false) →
      ∀ stacked : State, stacked = pushed awake awake.pc →
      interruptCheck s =
        ({ stacked with pc := BitVec.ofNat 16 (0x40 + 8 * i), ime := false }.setIo 0x0F
          (stacked.readByte 0xFF0F &&& ~~~(BitVec.ofNat 8 (2 ^ i))), 20))

/-- After every step, a request that is enabled and raised finds `IME` clear and the processor running: with `IME` set it
would have been dispatched, and a halted processor would have been woken. -/
def Obligations.NoEnabledRequestWaitsWithImeSet : Prop :=
  ∀ s t : State, step s = .next t → t.ie &&& t.readByte 0xFF0F &&& 0x1F ≠ 0 → t.ime = false ∧ t.halted = false

/-- R306 with R286, R285: after EI's own step `IME` is still clear; after the next instruction's step the countdown is
over and `IME` was set, so it is set now unless that step dispatched; a DI as that instruction cancels it. The
countdown is the spec's decision D8. -/
def Obligations.EiTakesEffectOneInstructionLate : Prop :=
  ∀ s t : State, s.halted = false → step s = .next t →
    (fetchInstr s = .ei → s.ime = false → s.imeDelay = 0 →
      t.ime = false ∧ t.imeDelay = 1 ∧ t.pc = s.pcAfterOpcode ∧ t.sp = s.sp) ∧
    (fetchInstr s ≠ .di → s.imeDelay = 1 →
      t.imeDelay = 0 ∧ (t.ime = true ∨ t.clock = s.clock + t.cycles + 20)) ∧
    (fetchInstr s = .di → t.ime = false ∧ t.imeDelay = 0 ∧ t.pc = s.pcAfterOpcode ∧ t.sp = s.sp)

/-- No state stops the machine: every step has a next state. Its instruction reports 4 to 24 cycles, in fours. Where `IME`
is set and an enabled request is raised once the devices have caught up (`before`), the interrupt is dispatched, the
devices see 20 cycles more, and so does the clock; else the clock moves by the cycles of the instruction. No step leaves
the countdown of EI at 2: its form is the spec's decision D8. That the devices see the cycles of a dispatch is the spec's
decision D10, the meaning of pending its D7. -/
def Obligations.EveryStepCompletesAndCountsItsCycles : Prop :=
  ∀ s : State, ∃ ran before t : State,
    cpuStep (takeInput s) = .next ran ∧ before = advanceDevices ran.cycles (imeTick ran) ∧ step s = .next t ∧
    t.cycles = ran.cycles ∧ t.cycles % 4 = 0 ∧ 4 ≤ t.cycles ∧ t.cycles ≤ 24 ∧
    (before.ime = true ∧ before.ie &&& before.readByte 0xFF0F &&& 0x1F ≠ 0 →
      t = { advanceDevices 20 (interruptCheck before).1 with clock := s.clock + t.cycles + 20 }) ∧
    (before.ime = false ∨ before.ie &&& before.readByte 0xFF0F &&& 0x1F = 0 →
      t = { (interruptCheck before).1 with clock := s.clock + t.cycles }) ∧
    t.imeDelay ≠ 2

/-- R330 (a): a halted processor with no interrupt enabled never wakes: a step changes no register, no control register
and no byte of memory but the registers that the devices keep, P1, DIV, TIMA, IF, STAT and LY. Of the control state only
a countdown of EI under way runs out, and sets `IME` then (R306, the spec's decision D8). It is one of the ends of a run
that the spec's decision D32 names. -/
def Obligations.DeadHaltNeverWakes : Prop :=
  ∀ s t : State, s.halted = true → s.ie &&& 0x1F = 0 → step s = .next t →
    t.halted = true ∧ t.ie = s.ie ∧ t.pc = s.pc ∧ t.sp = s.sp ∧ t.f = s.f ∧ (∀ r : Reg8, t.reg r = s.reg r) ∧
    t.bank = s.bank ∧ t.haltBug = s.haltBug ∧ (s.imeDelay ≠ 1 → t.ime = s.ime) ∧
    (s.imeDelay = 1 → t.ime = true) ∧ t.imeDelay = (if s.imeDelay = 2 then 1 else 0) ∧
    ∀ x : Word, x ∉ [0xFF00, 0xFF04, 0xFF05, 0xFF0F, 0xFF41, 0xFF44] → t.readByte x = s.readByte x

/-! The timer. -/

/-- R341: `DIV` and `DivAcc` are one 16-bit counter of cycles, enabled or not. -/
def Obligations.DividerCountsEveryCycle : Prop :=
  ∀ (s : State) (c : Nat), s.divAcc < 256 →
    dividerCounter (timerStep c s) = (dividerCounter s + c) % 65536 ∧ (timerStep c s).divAcc < 256

/-- R343, R345, R346: while enabled the counter moves once for each period that the accumulator passes; an increment
that overflows reloads `TIMA` from `TMA` and requests interrupt 2, and the increments left count on from there, `TMA` to
0xFF and again, with `TMA` = 0xFF overflowing every time; while disabled nothing of it moves. The accumulator of its own
is the spec's decision D11. -/
def Obligations.TimerCountsPeriods : Prop :=
  ∀ (s : State) (c period n : Nat),
    period = (match (s.tac.toNat % 4 : Nat) with | 0 => 1024 | 1 => 16 | 2 => 64 | _ => 256) →
    n = (s.timaAcc + c) / period →
    (s.tac.getLsbD 2 = true →
      (timerStep c s).timaAcc = (s.timaAcc + c) % period ∧
      (s.tima.toNat + n < 256 →
        (timerStep c s).tima.toNat = s.tima.toNat + n ∧ (timerStep c s).iflags = s.iflags) ∧
      (256 ≤ s.tima.toNat + n →
        (timerStep c s).tima.toNat = s.tma.toNat + (s.tima.toNat + n - 256) % (256 - s.tma.toNat) ∧
        (timerStep c s).iflags = s.iflags ||| 0x04)) ∧
    (s.tac.getLsbD 2 = false →
      (timerStep c s).timaAcc = s.timaAcc ∧ (timerStep c s).tima = s.tima ∧ (timerStep c s).iflags = s.iflags)

/-! The picture unit. -/

/-- R362, R375, R376, R379, R384: the sequencer with the LCD on. The thresholds are 80, 172 and 204 cycles in OamScan,
PixelTransfer and HBlank and 456 for each line of V-Blank. Below the threshold only the cycle count moves; at it the
excess is carried, the mode follows, `LY` moves only at the end of HBlank and of a line of V-Blank, `STAT[1:0]` is the
mode, and `STAT[2]` tells `LY = LYC` where `LY` moved and is kept where it did not. When the coincidence check runs is the
spec's decision D40. -/
def Obligations.SequencerFollowsTheModes : Prop :=
  ∀ (s : State) (c threshold : Nat), s.lcdc.getLsbD 7 = true →
    threshold = (match s.mode with | .oamScan => 80 | .pixelTransfer => 172 | .hBlank => 204 | .vBlank => 456) →
    (s.lineCycles + c < threshold → ppuStep c s = { s with lineCycles := s.lineCycles + c }) ∧
    (threshold ≤ s.lineCycles + c →
      (ppuStep c s).lineCycles = s.lineCycles + c - threshold ∧
      (s.stat &&& 0x03 = s.mode.bits → (ppuStep c s).stat &&& 0x03 = (ppuStep c s).mode.bits) ∧
      (s.mode = .oamScan → (ppuStep c s).mode = .pixelTransfer ∧ (ppuStep c s).ly = s.ly) ∧
      (s.mode = .pixelTransfer → (ppuStep c s).mode = .hBlank ∧ (ppuStep c s).ly = s.ly) ∧
      (s.mode = .hBlank → (ppuStep c s).ly = s.ly + 1 ∧
        (ppuStep c s).mode = if s.ly = 143 then .vBlank else .oamScan) ∧
      (s.mode = .vBlank → s.ly.toNat < 153 → (ppuStep c s).ly = s.ly + 1 ∧ (ppuStep c s).mode = .vBlank) ∧
      (s.mode = .vBlank → s.ly = 153 → (ppuStep c s).ly = 0 ∧ (ppuStep c s).mode = .oamScan) ∧
      ((s.mode = .hBlank ∨ s.mode = .vBlank) →
        ((ppuStep c s).stat.getLsbD 2 = true ↔ (ppuStep c s).ly = s.lyc)) ∧
      ((s.mode = .oamScan ∨ s.mode = .pixelTransfer) →
        (ppuStep c s).stat.getLsbD 2 = s.stat.getLsbD 2))

/-- R378: a drawn line visits OamScan, PixelTransfer and HBlank for exactly 80 + 172 + 204 = 456 cycles: any fewer leave
the mode and `LY` where they are, `LY` moves by one only at the end of the HBlank. The mode after it is as R375 has it. -/
def Obligations.DrawnLineTakes456Cycles : Prop :=
  ∀ s : State, s.lcdc.getLsbD 7 = true → s.mode = .oamScan → s.lineCycles = 0 → s.ly.toNat ≤ 143 →
    (∀ c < 80, (ppuStep c s).mode = .oamScan ∧ (ppuStep c s).ly = s.ly) ∧
    (ppuStep 80 s).mode = .pixelTransfer ∧ (ppuStep 80 s).ly = s.ly ∧
    (∀ c < 172, (ppuStep c (ppuStep 80 s)).mode = .pixelTransfer ∧ (ppuStep c (ppuStep 80 s)).ly = s.ly) ∧
    (ppuStep 172 (ppuStep 80 s)).mode = .hBlank ∧ (ppuStep 172 (ppuStep 80 s)).ly = s.ly ∧
    (∀ c < 204, (ppuStep c (ppuStep 172 (ppuStep 80 s))).mode = .hBlank ∧
      (ppuStep c (ppuStep 172 (ppuStep 80 s))).ly = s.ly) ∧
    (ppuStep 204 (ppuStep 172 (ppuStep 80 s))).ly = s.ly + 1 ∧
    (ppuStep 204 (ppuStep 172 (ppuStep 80 s))).lineCycles = 0 ∧
    (ppuStep 204 (ppuStep 172 (ppuStep 80 s))).mode = if s.ly = 143 then .vBlank else .oamScan

/-- R380: entering V-Blank after line 143 always requests interrupt 0 and hands the host the frame as it is, once. The
hand-over by value is the spec's decision D41; the list of the frames handed over is the model's (log 5), and a frame is
kept as shades (log 9). That each source of the LCD-Stat request raises it on its own is the spec's decision D39, that the
coincidence is looked at where `LY` moves its D40. -/
def Obligations.VBlankEntryRaisesAndHandsOver : Prop :=
  ∀ (s : State) (c : Nat), s.lcdc.getLsbD 7 = true → s.mode = .hBlank → s.ly = 143 → 204 ≤ s.lineCycles + c →
    (ppuStep c s).ly = 144 ∧ (ppuStep c s).mode = .vBlank ∧ (ppuStep c s).iflags.getLsbD 0 = true ∧
    (ppuStep c s).framesReady = s.framesReady ++ [s.frameBuffer] ∧ (ppuStep c s).frameBuffer = s.frameBuffer ∧
    ((ppuStep c s).iflags.getLsbD 1 = true ↔
      s.iflags.getLsbD 1 = true ∨ s.stat.getLsbD 4 = true ∨ (s.lyc = 144 ∧ s.stat.getLsbD 6 = true)) ∧
    (∀ j < 8, 2 ≤ j → (ppuStep c s).iflags.getLsbD j = s.iflags.getLsbD j)

/-- R381, R384: the LCD-Stat request of a transition other than into V-Blank: entering OamScan with `STAT[5]`, HBlank
with `STAT[3]`, and a line that equals `LYC` with `STAT[6]`; entering PixelTransfer requests nothing. No other request
bit changes. That each source requests on its own is the spec's decision D39, that the coincidence is looked at just where
the sequencer moves `LY` its D40. -/
def Obligations.StatRequestsOnModeEntry : Prop :=
  ∀ (s : State) (c : Nat), s.lcdc.getLsbD 7 = true → s.mode.duration ≤ s.lineCycles + c →
    ¬ (s.mode = .hBlank ∧ s.ly = 143) →
    ((ppuStep c s).iflags.getLsbD 1 = true ↔ s.iflags.getLsbD 1 = true ∨
      ((ppuStep c s).mode = .oamScan ∧ s.stat.getLsbD 5 = true) ∨
      ((ppuStep c s).mode = .hBlank ∧ s.stat.getLsbD 3 = true) ∨
      ((s.mode = .hBlank ∨ s.mode = .vBlank) ∧ (ppuStep c s).ly = s.lyc ∧ s.stat.getLsbD 6 = true)) ∧
    (∀ j < 8, j ≠ 1 → (ppuStep c s).iflags.getLsbD j = s.iflags.getLsbD j) ∧
    (ppuStep c s).framesReady = s.framesReady

/-- R377: while the LCD is off every call freezes the sequencer at line 0 in mode 0 and does nothing else: no request,
no coincidence check, no frame, no picture. The frozen state is the spec's decision D15. -/
def Obligations.LcdOffFreezesTheSequencer : Prop :=
  ∀ (s : State) (c : Nat), s.lcdc.getLsbD 7 = false →
    (ppuStep c s).ly = 0 ∧ (ppuStep c s).lineCycles = 0 ∧ (ppuStep c s).mode = .hBlank ∧
    (ppuStep c s).stat = s.stat &&& 0xFC ∧ (ppuStep c s).iflags = s.iflags ∧
    (ppuStep c s).frameBuffer = s.frameBuffer ∧ (ppuStep c s).framesReady = s.framesReady

/-- The picture unit changes nothing a program can read but `LY`, `STAT[2:0]` and the requests, and no register of the
processor. -/
def Obligations.PictureUnitIsInvisibleElsewhere : Prop :=
  ∀ (s : State) (c : Nat) (x : Word),
    (x ≠ 0xFF44 → x ≠ 0xFF41 → x ≠ 0xFF0F → (ppuStep c s).readByte x = s.readByte x) ∧
    (∀ j < 8, 3 ≤ j → (ppuStep c s).stat.getLsbD j = s.stat.getLsbD j) ∧
    (∀ r : Reg8, (ppuStep c s).reg r = s.reg r) ∧ (ppuStep c s).f = s.f ∧ (ppuStep c s).sp = s.sp ∧
    (ppuStep c s).pc = s.pc ∧ (ppuStep c s).ime = s.ime ∧ (ppuStep c s).halted = s.halted

/-- R390 to R393: entering HBlank draws the line `LY` and no other: its 160 pixels, each from VRAM, OAM and the registers
as they are at that moment. With `LCDC[0] = 1` the shade behind the sprites is the one BGP gives the colour index of the
window, where the window covers the pixel, else of the background moved by SCY and SCX. R390 has the renderer read VRAM
directly; the statement names those bytes by the values `readByte` gives at their addresses. The line of the window is the
spec's decision D18. The frame is kept as shades (log 9). -/
def Obligations.EnteringHBlankDrawsTheLine : Prop :=
  (∀ (s : State) (c y x : Nat), s.lcdc.getLsbD 7 = true → s.mode = .pixelTransfer → 172 ≤ s.lineCycles + c →
    s.frameBuffer.length = 144 → s.ly.toNat ≤ 143 →
    (ppuStep c s).frameBuffer.length = 144 ∧
    (y ≠ s.ly.toNat → (ppuStep c s).frameBuffer.getD y [] = s.frameBuffer.getD y []) ∧
    ((ppuStep c s).frameBuffer.getD s.ly.toNat []).length = 160 ∧
    (x < 160 → ((ppuStep c s).frameBuffer.getD s.ly.toNat []).getD x 0 = pixelShade s s.ly.toNat x)) ∧
  (∀ (s : State) (ly x row col map data i : Nat) (window : Bool) (tile : Byte),
    ly ≤ 143 → x < 160 → s.lcdc.getLsbD 0 = true →
    (window = true ↔ s.lcdc.getLsbD 5 = true ∧ s.wy.toNat ≤ ly ∧ s.wx.toNat ≤ x + 7) →
    row = (if window then ly - s.wy.toNat else (ly + s.scy.toNat) % 256) →
    col = (if window then x + 7 - s.wx.toNat else (x + s.scx.toNat) % 256) →
    map = (if s.lcdc.getLsbD (if window then 6 else 3) then 0x9C00 else 0x9800) →
    tile = s.readByte (BitVec.ofNat 16 (map + 32 * (row / 8) + col / 8)) →
    (data : Int) = (if s.lcdc.getLsbD 4 then 0x8000 + 16 * (tile.toNat : Int) else 0x9000 + 16 * tile.toInt) →
    i = tileColour s data (row % 8) (col % 8) →
    (bgShade s ly x).getLsbD 0 = s.bgp.getLsbD (2 * i) ∧ (bgShade s ly x).getLsbD 1 = s.bgp.getLsbD (2 * i + 1))

/-- R394, R395, R396: where several sprites show a colour at a pixel, the first in table order decides it, also when it
is then hidden behind the background; where none does, or sprites are off, the background shows; with background and
sprites off the pixel is shade 0. A sprite covers the lines and columns its table entry says, and shows the colour of its
tile there after its flips, a tall one of the even tile and the one after it. The order of the sprites, the test against
the shade and the blank background are the spec's decisions D16, D17, D19. -/
def Obligations.FirstOpaqueSpriteDecidesThePixel : Prop :=
  (∀ (s : State) (ly x : Nat),
    (∀ n < 40, s.lcdc.getLsbD 1 = true → spriteCovers s ly x n = true → spriteIndex s ly x n ≠ 0 →
      (∀ m < n, spriteCovers s ly x m = false ∨ spriteIndex s ly x m = 0) →
      pixelShade s ly x =
        if (spriteAttr s n).getLsbD 7 = true ∧ bgShade s ly x ≠ 0 then bgShade s ly x
        else shadeOf (if (spriteAttr s n).getLsbD 4 then s.obp1 else s.obp0) (spriteIndex s ly x n)) ∧
    ((s.lcdc.getLsbD 1 = false ∨ ∀ n < 40, spriteCovers s ly x n = false ∨ spriteIndex s ly x n = 0) →
      pixelShade s ly x = bgShade s ly x) ∧
    (s.lcdc.getLsbD 0 = false → bgShade s ly x = 0)) ∧
  (∀ (s : State) (ly x n height row col : Nat) (top left tile attr : Byte),
    n < 40 → height = (if s.lcdc.getLsbD 2 then 16 else 8) →
    top = s.readByte (BitVec.ofNat 16 (0xFE00 + 4 * n)) → left = s.readByte (BitVec.ofNat 16 (0xFE00 + 4 * n + 1)) →
    tile = s.readByte (BitVec.ofNat 16 (0xFE00 + 4 * n + 2)) →
    attr = s.readByte (BitVec.ofNat 16 (0xFE00 + 4 * n + 3)) →
    (spriteCovers s ly x n = true ↔ (top.toNat : Int) - 16 ≤ ly ∧ (ly : Int) < top.toNat - 16 + height ∧
      (left.toNat : Int) - 8 ≤ x ∧ (x : Int) < left.toNat) ∧
    spriteAttr s n = attr ∧
    (spriteCovers s ly x n = true → (ly : Int) - (top.toNat - 16) = row → (x : Int) - (left.toNat - 8) = col →
      spriteIndex s ly x n =
        tileColour s (0x8000 + 16 * (if height = 16 then tile.toNat / 2 * 2 else tile.toNat))
          (if attr.getLsbD 6 then height - 1 - row else row) (if attr.getLsbD 5 then 7 - col else col)))

/-! Joypad and serial port. -/

/-- R421, R422: the latch shows a 0 exactly for the held buttons of the selected groups, keeps the bits the program
wrote, and requests interrupt 4 whenever it shows one. Every step leaves `P1` so. The write mask and the two groups
together are the spec's decision D25. -/
def Obligations.JoypadLatchShowsHeldButtons : Prop :=
  (∀ (s : State) (i : Nat), i < 4 →
    ((joypadStep s).p1.getLsbD i = false ↔
      (s.p1.getLsbD 4 = false ∧ [s.buttons.right, s.buttons.left, s.buttons.up, s.buttons.down].getD i false = true) ∨
      (s.p1.getLsbD 5 = false ∧ [s.buttons.a, s.buttons.b, s.buttons.select, s.buttons.start].getD i false = true)) ∧
    (joypadStep s).p1.getLsbD (i + 4) = s.p1.getLsbD (i + 4) ∧
    (joypadStep s).iflags = if (joypadStep s).p1 &&& 0x0F = 0x0F then s.iflags else s.iflags ||| 0x10) ∧
  (∀ s t : State, step s = .next t → (joypadStep t).p1 = t.p1)

/-- R430, R431: writing SC stores the value, and the start pattern 0x81 hands the host the byte in SB, once; nothing
else changes, no other byte of memory among it, and no other write hands the host a byte. The pattern 0x81 is the spec's
decision D26; the trace is the model's list of the bytes handed over (log 5). -/
def Obligations.SerialPortHandsOverOnTheStartPattern : Prop :=
  (∀ (s : State) (v : Byte),
    s.writeByte 0xFF02 v = { s.setIo 0x02 v with
      serialTrace := if v = 0x81 then s.serialTrace ++ [s.readByte 0xFF01] else s.serialTrace } ∧
    (s.setIo 0x02 v).readByte 0xFF02 = v ∧ (∀ x : Word, x ≠ 0xFF02 → (s.setIo 0x02 v).readByte x = s.readByte x)) ∧
  (∀ (s : State) (x : Word) (v : Byte), x ≠ 0xFF02 → (s.writeByte x v).serialTrace = s.serialTrace)

/-! Memory and cartridge. -/

/-- R58, R60: the echo behaves exactly as the address 0x2000 below it; the unusable range reads 0xFF and drops writes.
That the echo shows both banks of work RAM is the spec's resolution of its conflict C1. -/
def Obligations.EchoAndUnusableRanges : Prop :=
  ∀ (s : State) (x : Word) (v : Byte),
    (0xE000 ≤ x.toNat → x.toNat < 0xFE00 →
      s.readByte x = s.readByte (x - 0x2000) ∧ s.writeByte x v = s.writeByte (x - 0x2000) v) ∧
    (0xFEA0 ≤ x.toNat → x.toNat < 0xFF00 → s.readByte x = 0xFF ∧ s.writeByte x v = s)

/-- A byte written to plain storage is read back. R61, R62, R64: what a write to the I/O registers and IE does. DIV and
the divider's accumulator go to 0, LY goes to 0, P1 keeps its low half, STAT takes bits 6 to 3 alone, IE and every other
register take the value (SC and DMA have statements of their own), and nothing else changes but the sound unit, which a
write to its registers reaches. `setIo` stores the one byte. The masks of P1 and STAT are the spec's decisions D25 and D12,
what a write does to the sound unit is open (log 11). -/
def Obligations.StoresAreReadBack : Prop :=
  (∀ (s : State) (x : Word) (v : Byte), plainStorage s x → (s.writeByte x v).readByte x = v) ∧
  (∀ (s : State) (off : Nat) (v : Byte), off < 0x80 →
    (s.setIo off v).readByte (BitVec.ofNat 16 (0xFF00 + off)) = v ∧
    (∀ x : Word, x.toNat ≠ 0xFF00 + off → (s.setIo off v).readByte x = s.readByte x) ∧
    (off ∉ [0x00, 0x02, 0x04, 0x41, 0x44, 0x46] → off < 0x10 ∨ 0x40 ≤ off →
      s.writeByte (BitVec.ofNat 16 (0xFF00 + off)) v = s.setIo off v) ∧
    (0x10 ≤ off → off < 0x40 →
      ∃ sound : Apu, s.writeByte (BitVec.ofNat 16 (0xFF00 + off)) v = { s.setIo off v with apu := sound })) ∧
  (∀ (s : State) (v : Byte),
    s.writeByte 0xFF04 v = { s.setIo 0x04 0 with divAcc := 0 } ∧ s.writeByte 0xFF44 v = s.setIo 0x44 0 ∧
    s.writeByte 0xFFFF v = { s with ie := v } ∧ (s.writeByte 0xFFFF v).readByte 0xFFFF = v ∧
    (∃ p : Byte, s.writeByte 0xFF00 v = s.setIo 0x00 p ∧
      ∀ j < 8, p.getLsbD j = if j < 4 then (s.readByte 0xFF00).getLsbD j else v.getLsbD j) ∧
    (∃ q : Byte, s.writeByte 0xFF41 v = s.setIo 0x41 q ∧
      ∀ j < 8, q.getLsbD j = if 3 ≤ j ∧ j ≤ 6 then v.getLsbD j else (s.readByte 0xFF41).getLsbD j))

/-- OAM DMA copies the 160 bytes of the page into the sprite table, read through the router, for every page, and the
trigger reads back as written. An instantaneous copy that reads through the router is the spec's decision D14. -/
def Obligations.DmaCopiesThePage : Prop :=
  ∀ (s : State) (v : Byte) (i : Nat), i < 160 →
    (s.writeByte 0xFF46 v).readByte (BitVec.ofNat 16 (0xFE00 + i)) =
      (s.setIo 0x46 v).readByte (BitVec.ofNat 16 (v.toNat * 256 + i)) ∧
    (s.writeByte 0xFF46 v).readByte 0xFF46 = v

/-- No step changes the cartridge image, the size of external RAM or the kind of controller. -/
def Obligations.CartridgeImageIsNeverWritten : Prop :=
  ∀ s t : State, step s = .next t →
    t.mem.rom = s.mem.rom ∧ t.mem.romSize = s.mem.romSize ∧ t.mem.extRamSize = s.mem.extRamSize ∧
    (s.bank = .noBanking ↔ t.bank = .noBanking) ∧ ((∃ m, s.bank = .mbc1 m) ↔ ∃ m, t.bank = .mbc1 m) ∧
    ((∃ m, s.bank = .mbc2 m) ↔ ∃ m, t.bank = .mbc2 m) ∧ ((∃ m, s.bank = .mbc3 m) ↔ ∃ m, t.bank = .mbc3 m) ∧
    ((∃ m, s.bank = .mbc5 m) ↔ ∃ m, t.bank = .mbc5 m)

/-- R99 to R103: no controller, MBC1 and MBC2, the registers by write range and the windows they select; MBC2 has 512
cells of 4 bits. The mode bit of MBC1, the registers of MBC2, the reads beyond the arrays and the values that enable
external RAM are the spec's decisions D21, D35, D23, D24. -/
def Obligations.NoBankingMbc1AndMbc2 : Prop :=
  (∀ (s : State) (m : Mbc1) (x : Word) (v : Byte), s.bank = .mbc1 m →
    (x.toNat < 0x2000 → s.writeByte x v = { s with bank := .mbc1 { m with ramEnable := decide (v.toNat % 16 = 0xA) } }) ∧
    (0x2000 ≤ x.toNat → x.toNat < 0x4000 → ∃ b : BitVec 5,
      b.toNat = (if v.toNat % 32 = 0 then 1 else v.toNat % 32) ∧
      s.writeByte x v = { s with bank := .mbc1 { m with bank1 := b } }) ∧
    (0x4000 ≤ x.toNat → x.toNat < 0x6000 → ∃ b : BitVec 2,
      b.toNat = v.toNat % 4 ∧ s.writeByte x v = { s with bank := .mbc1 { m with bank2 := b } }) ∧
    (0x6000 ≤ x.toNat → x.toNat < 0x8000 →
      s.writeByte x v = { s with bank := .mbc1 { m with bankMode := v.getLsbD 0 } }) ∧
    (x.toNat < 0x4000 →
      s.readByte x = romAt s.mem ((if m.bankMode then 32 * m.bank2.toNat else 0) * 0x4000 + x.toNat)) ∧
    (0x4000 ≤ x.toNat → x.toNat < 0x8000 →
      s.readByte x = romAt s.mem ((32 * m.bank2.toNat + m.bank1.toNat) * 0x4000 + (x.toNat - 0x4000))) ∧
    (0xA000 ≤ x.toNat → x.toNat < 0xC000 →
      s.readByte x = (if m.ramEnable then
        ramAt s.mem ((if m.bankMode then m.bank2.toNat else 0) * 0x2000 + (x.toNat - 0xA000)) else 0xFF) ∧
      s.writeByte x v = (if m.ramEnable then
        { s with mem := ramPut s.mem ((if m.bankMode then m.bank2.toNat else 0) * 0x2000 + (x.toNat - 0xA000)) v }
        else s))) ∧
  (∀ (s : State) (m : Mbc2) (x : Word) (v : Byte),
    (s.bank = .noBanking → x.toNat < 0x8000 → s.readByte x = romAt s.mem x.toNat ∧ s.writeByte x v = s) ∧
    (s.bank = .noBanking → 0xA000 ≤ x.toNat → x.toNat < 0xC000 → s.readByte x = 0xFF ∧ s.writeByte x v = s) ∧
    (s.bank = .mbc2 m →
      (x.toNat < 0x4000 → x.getLsbD 8 = false →
        s.writeByte x v = { s with bank := .mbc2 { m with ramEnable := decide (v.toNat % 16 = 0xA) } }) ∧
      (x.toNat < 0x4000 → x.getLsbD 8 = true → ∃ b : BitVec 4,
        b.toNat = (if v.toNat % 16 = 0 then 1 else v.toNat % 16) ∧
        s.writeByte x v = { s with bank := .mbc2 { m with romBank := b } }) ∧
      (0x4000 ≤ x.toNat → x.toNat < 0x8000 → s.writeByte x v = s ∧
        s.readByte x = romAt s.mem (m.romBank.toNat * 0x4000 + (x.toNat - 0x4000))) ∧
      (x.toNat < 0x4000 → s.readByte x = romAt s.mem x.toNat) ∧
      (0xA000 ≤ x.toNat → x.toNat < 0xC000 → s.mem.extRamSize = 512 →
        s.readByte x = (if m.ramEnable then 0xF0 ||| (s.mem.get .extRam ((x.toNat - 0xA000) % 512) &&& 0x0F) else 0xFF) ∧
        s.writeByte x v = (if m.ramEnable then
          { s with mem := s.mem.set .extRam ((x.toNat - 0xA000) % 512) (v &&& 0x0F) } else s))))

/-- R104 to R107: the registers and windows of MBC3 and MBC5; MBC3 turns bank 0 into 1 and shows no RAM above bank 3,
MBC5 selects any bank of 9 bits. MBC3 without a clock, bank 0 of MBC5, the reads beyond the arrays and the values that
enable external RAM are the spec's decisions D22, D36, D23, D24. -/
def Obligations.Mbc3AndMbc5 : Prop :=
  ∀ (s : State) (m : Mbc3) (n : Mbc5) (x : Word) (v : Byte),
    (s.bank = .mbc3 m →
      (x.toNat < 0x2000 → s.writeByte x v = { s with bank := .mbc3 { m with ramEnable := decide (v.toNat % 16 = 0xA) } }) ∧
      (0x2000 ≤ x.toNat → x.toNat < 0x4000 → ∃ b : BitVec 7,
        b.toNat = (if v.toNat % 128 = 0 then 1 else v.toNat % 128) ∧
        s.writeByte x v = { s with bank := .mbc3 { m with romBank := b } }) ∧
      (0x4000 ≤ x.toNat → x.toNat < 0x6000 →
        s.writeByte x v = { s with bank := .mbc3 { m with ramBank := v.setWidth 4 } }) ∧
      (0x6000 ≤ x.toNat → x.toNat < 0x8000 → s.writeByte x v = s) ∧
      (x.toNat < 0x4000 → s.readByte x = romAt s.mem x.toNat) ∧
      (0x4000 ≤ x.toNat → x.toNat < 0x8000 →
        s.readByte x = romAt s.mem (m.romBank.toNat * 0x4000 + (x.toNat - 0x4000))) ∧
      (0xA000 ≤ x.toNat → x.toNat < 0xC000 →
        s.readByte x = (if m.ramEnable = true ∧ m.ramBank.toNat ≤ 3 then
          ramAt s.mem (m.ramBank.toNat * 0x2000 + (x.toNat - 0xA000)) else 0xFF) ∧
        s.writeByte x v = (if m.ramEnable = true ∧ m.ramBank.toNat ≤ 3 then
          { s with mem := ramPut s.mem (m.ramBank.toNat * 0x2000 + (x.toNat - 0xA000)) v } else s))) ∧
    (s.bank = .mbc5 n →
      (x.toNat < 0x2000 → s.writeByte x v = { s with bank := .mbc5 { n with ramEnable := decide (v.toNat % 16 = 0xA) } }) ∧
      (0x2000 ≤ x.toNat → x.toNat < 0x3000 → ∃ b : BitVec 9,
        b.toNat = n.romBank.toNat / 256 * 256 + v.toNat ∧
        s.writeByte x v = { s with bank := .mbc5 { n with romBank := b } }) ∧
      (0x3000 ≤ x.toNat → x.toNat < 0x4000 → ∃ b : BitVec 9,
        b.toNat = v.toNat % 2 * 256 + n.romBank.toNat % 256 ∧
        s.writeByte x v = { s with bank := .mbc5 { n with romBank := b } }) ∧
      (0x4000 ≤ x.toNat → x.toNat < 0x6000 →
        s.writeByte x v = { s with bank := .mbc5 { n with ramBank := v.setWidth 4 } }) ∧
      (0x6000 ≤ x.toNat → x.toNat < 0x8000 → s.writeByte x v = s) ∧
      (x.toNat < 0x4000 → s.readByte x = romAt s.mem x.toNat) ∧
      (0x4000 ≤ x.toNat → x.toNat < 0x8000 →
        s.readByte x = romAt s.mem (n.romBank.toNat * 0x4000 + (x.toNat - 0x4000))) ∧
      (0xA000 ≤ x.toNat → x.toNat < 0xC000 →
        s.readByte x = (if n.ramEnable then
          ramAt s.mem (n.ramBank.toNat * 0x2000 + (x.toNat - 0xA000)) else 0xFF) ∧
        s.writeByte x v = (if n.ramEnable then
          { s with mem := ramPut s.mem (n.ramBank.toNat * 0x2000 + (x.toNat - 0xA000)) v } else s)))

/-! Reset and loading. -/

/-- R451 to R455, R457: the reset values, for every cartridge that loads: the processor's registers and control state, the
control registers as a program reads them, the hidden state of the devices, and the bank registers. The values are the spec's decisions D1,
D2, D3; no source states them (log 14). The frame is kept as shades (log 9). -/
def Obligations.ResetValues : Prop :=
  ∀ (image : List Byte) (s : State), loadCartridge image = .next s →
    s.a = 0x01 ∧ s.f = { z := true, n := false, h := true, c := true } ∧ s.b = 0x00 ∧ s.c = 0x13 ∧ s.d = 0x00 ∧
    s.e = 0xD8 ∧ s.h = 0x01 ∧ s.l = 0x4D ∧ s.sp = 0xFFFE ∧ s.pc = 0x0100 ∧
    s.ime = false ∧ s.imeDelay = 0 ∧ s.halted = false ∧ s.haltBug = false ∧ s.clock = 0 ∧
    s.readByte 0xFF00 = 0xCF ∧ s.readByte 0xFF04 = 0xAB ∧ s.readByte 0xFF07 = 0xF8 ∧ s.readByte 0xFF0F = 0xE1 ∧
    s.readByte 0xFF40 = 0x91 ∧ s.readByte 0xFF41 = 0x86 ∧ s.readByte 0xFF46 = 0xFF ∧ s.readByte 0xFF47 = 0xFC ∧
    s.readByte 0xFF48 = 0xFF ∧ s.readByte 0xFF49 = 0xFF ∧ s.readByte 0xFFFF = 0x00 ∧
    (∀ off < 128, off ∉ [0x00, 0x04, 0x07, 0x0F, 0x40, 0x41, 0x46, 0x47, 0x48, 0x49] →
      s.readByte (BitVec.ofNat 16 (0xFF00 + off)) = 0x00) ∧
    s.divAcc = 0 ∧ s.timaAcc = 0 ∧ s.mode = .oamScan ∧ s.lineCycles = 0 ∧
    s.frameBuffer = List.replicate 144 (List.replicate 160 0) ∧
    s.buttons = { right := false, left := false, up := false, down := false, a := false, b := false,
                  select := false, start := false } ∧
    s.serialTrace = [] ∧
    (s.bank = .noBanking ∨ s.bank = .mbc1 { ramEnable := false, bank1 := 1, bank2 := 0, bankMode := false } ∨
      s.bank = .mbc2 { ramEnable := false, romBank := 1 } ∨
      s.bank = .mbc3 { ramEnable := false, romBank := 1, ramBank := 0 } ∨
      s.bank = .mbc5 { ramEnable := false, romBank := 1, ramBank := 0 })

/-- R337 with R92, R93, R455: loading fails exactly for an image shorter than 0x150 bytes or a controller-type byte outside
the table; a machine that loads shows the image at 0x0000 to 0x7FFF, 0xFF beyond its end. R460: the machine (`machineOf`)
exists exactly for an image of 0x150 bytes or more with a controller-type byte and size codes of the tables; it is then what
loading gives, and its external RAM has the size of R93. The table of controllers is the spec's decision D20, 0xFF beyond
the image and the size of external RAM its D23. That `loadCartridge` answers where R460 has no machine, for a size code
outside R93, is the model's choice: it follows R337's 'exactly' (log 6). -/
def Obligations.LoadingFailsExactlyAsSaid : Prop :=
  ∀ image : List Byte,
    ((∀ s, loadCartridge image ≠ .next s) ↔
      image.length < 0x150 ∨ (image.getD 0x147 0).toNat ∉
        [0x00, 0x01, 0x02, 0x03, 0x05, 0x06, 0x0F, 0x11, 0x10, 0x12, 0x13, 0x19, 0x1C, 0x1A, 0x1B, 0x1D, 0x1E]) ∧
    (∀ s, loadCartridge image = .next s → ∀ x : Word, x.toNat < 0x8000 → s.readByte x = image.getD x.toNat 0xFF) ∧
    ((∃ s, machineOf image = some s) ↔
      0x150 ≤ image.length ∧ (image.getD 0x147 0).toNat ∈
        [0x00, 0x01, 0x02, 0x03, 0x05, 0x06, 0x0F, 0x11, 0x10, 0x12, 0x13, 0x19, 0x1C, 0x1A, 0x1B, 0x1D, 0x1E] ∧
      (image.getD 0x148 0).toNat ≤ 8 ∧ (image.getD 0x149 0).toNat ≤ 5) ∧
    (∀ s, machineOf image = some s → loadCartridge image = .next s ∧
      s.mem.extRamSize =
        if (image.getD 0x147 0).toNat ∈ [0x05, 0x06] then 512
        else if (image.getD 0x147 0).toNat ∈ [0x02, 0x03, 0x10, 0x12, 0x13, 0x1A, 0x1B, 0x1D, 0x1E] then
          [0, 2048, 8192, 32768, 131072, 65536].getD (image.getD 0x149 0).toNat 0
        else 0)

/-! The invariant. -/

/-- The state at reset, and every state in which a loaded cartridge starts, meets the invariant. The reset values are the
spec's decisions D1 to D3 (log 14), the blank cartridge of `State.reset` is the model's choice (log 1). -/
def Obligations.ResetMeetsTheInvariant : Prop :=
  Inv State.reset ∧ ∀ (image : List Byte) (s : State), loadCartridge image = .next s → Inv s

/-- Every step keeps the invariant: memory canonical, `STAT` mirroring the mode, `LY` a scanline and a drawn one outside
V-Blank, the accumulators below their periods, no mode overdue, the frame of 144 by 160. -/
def Obligations.EveryStepKeepsTheInvariant : Prop := ∀ s t : State, Inv s → step s = .next t → Inv t
end

