-- ==== Sys2Proof/Laws/Memory.lean ====
section
/-! SUPPORT. The storage regions: a write is read back, leaves every other byte alone, and keeps the canonical form. -/

namespace Sys2Proof.Machine

theorem readCells_eraseCells (dflt : Nat → Byte) (k j : Nat) (cells : List Host.Cell) :
    readCells dflt j (eraseCells k cells) = if j = k then dflt j else readCells dflt j cells := by
  induction cells with
  | nil => simp [eraseCells, readCells]
  | cons cell rest ih =>
    unfold eraseCells
    by_cases h : cell.1 = k
    · rw [if_pos h, ih]
      by_cases hj : j = k
      · simp [hj]
      · rw [if_neg hj, if_neg hj, readCells, if_neg (by omega)]
    · rw [if_neg h, readCells, ih]
      by_cases hj : j = k
      · simp [hj, h]
      · simp [hj, readCells]

theorem readCells_insertCell (dflt : Nat → Byte) (k j : Nat) (v : Byte) (cells : List Host.Cell)
    (hk : ∀ cell ∈ cells, cell.1 ≠ k) :
    readCells dflt j (insertCell k v cells) = if j = k then v else readCells dflt j cells := by
  induction cells with
  | nil =>
    by_cases hj : j = k
    · simp [insertCell, readCells, hj]
    · have hkj : ¬k = j := fun e => hj e.symm
      simp [insertCell, readCells, hj, hkj]
  | cons cell rest ih =>
    have hc : cell.1 ≠ k := hk cell (by simp)
    have hr := ih fun c hmem => hk c (by simp [hmem])
    unfold insertCell
    by_cases h : k < cell.1
    · rw [if_pos h]
      by_cases hj : j = k
      · simp [readCells, hj]
      · rw [if_neg hj]
        conv => lhs; unfold readCells
        rw [if_neg (fun e => hj e.symm)]
    · rw [if_neg h, readCells, hr]
      by_cases hj : j = k
      · simp [hj, hc]
      · simp [hj, readCells]

theorem mem_eraseCells {k : Nat} {cells : List Host.Cell} {cell : Host.Cell} (h : cell ∈ eraseCells k cells) :
    cell ∈ cells ∧ cell.1 ≠ k := by
  induction cells with
  | nil => simp [eraseCells] at h
  | cons c rest ih =>
    unfold eraseCells at h
    by_cases hc : c.1 = k
    · rw [if_pos hc] at h
      exact ⟨List.mem_cons_of_mem _ (ih h).1, (ih h).2⟩
    · rw [if_neg hc] at h
      rcases List.mem_cons.mp h with rfl | hm
      · exact ⟨by simp, hc⟩
      · exact ⟨List.mem_cons_of_mem _ (ih hm).1, (ih hm).2⟩

/-- Reading one byte after a write. -/
theorem readCells_writeCells (dflt : Nat → Byte) (k j : Nat) (v : Byte) (cells : List Host.Cell) :
    readCells dflt j (writeCells dflt k v cells) = if j = k then v else readCells dflt j cells := by
  unfold writeCells
  by_cases hv : v = dflt k
  · rw [if_pos hv, readCells_eraseCells]
    by_cases hj : j = k
    · simp [hj, hv]
    · simp [hj]
  · rw [if_neg hv, readCells_insertCell _ _ _ _ _ fun _ hm => (mem_eraseCells hm).2, readCells_eraseCells]
    by_cases hj : j = k <;> simp [hj]

theorem mem_insertCell {k : Nat} {v : Byte} {cells : List Host.Cell} {cell : Host.Cell}
    (h : cell ∈ insertCell k v cells) : cell = (k, v) ∨ cell ∈ cells := by
  induction cells with
  | nil => simpa [insertCell] using h
  | cons c rest ih =>
    unfold insertCell at h
    by_cases hc : k < c.1
    · rw [if_pos hc] at h
      simpa using h
    · rw [if_neg hc] at h
      rcases List.mem_cons.mp h with rfl | hm
      · exact .inr (by simp)
      · rcases ih hm with e | e
        · exact .inl e
        · exact .inr (List.mem_cons_of_mem _ e)

theorem pairwise_eraseCells {k : Nat} {cells : List Host.Cell} (h : cells.Pairwise fun x y => x.1 < y.1) :
    (eraseCells k cells).Pairwise fun x y => x.1 < y.1 := by
  induction cells with
  | nil => simp [eraseCells]
  | cons c rest ih =>
    rw [List.pairwise_cons] at h
    unfold eraseCells
    by_cases hc : c.1 = k
    · rw [if_pos hc]; exact ih h.2
    · rw [if_neg hc, List.pairwise_cons]
      exact ⟨fun x hx => h.1 x (mem_eraseCells hx).1, ih h.2⟩

theorem pairwise_insertCell {k : Nat} {v : Byte} {cells : List Host.Cell}
    (h : cells.Pairwise fun x y => x.1 < y.1) (hk : ∀ cell ∈ cells, cell.1 ≠ k) :
    (insertCell k v cells).Pairwise fun x y => x.1 < y.1 := by
  induction cells with
  | nil => simp [insertCell]
  | cons c rest ih =>
    have hc : c.1 ≠ k := hk c (by simp)
    have h' := h
    rw [List.pairwise_cons] at h
    unfold insertCell
    by_cases hlt : k < c.1
    · rw [if_pos hlt, List.pairwise_cons]
      refine ⟨fun x hx => ?_, h'⟩
      rcases List.mem_cons.mp hx with rfl | hm
      · exact hlt
      · exact Nat.lt_trans hlt (h.1 x hm)
    · rw [if_neg hlt, List.pairwise_cons]
      refine ⟨fun x hx => ?_, ih h.2 fun y hy => hk y (List.mem_cons_of_mem _ hy)⟩
      rcases mem_insertCell hx with rfl | hm
      · show c.1 < k
        omega
      · exact h.1 x hm

/-- A write keeps the canonical form. -/
theorem cellsWf_writeCells {dflt : Nat → Byte} {size k : Nat} {v : Byte} {cells : List Host.Cell}
    (h : CellsWf dflt size cells) (hk : k < size) : CellsWf dflt size (writeCells dflt k v cells) := by
  have he : CellsWf dflt size (eraseCells k cells) :=
    ⟨pairwise_eraseCells h.1, fun cell hm => h.2 cell (mem_eraseCells hm).1⟩
  unfold writeCells
  by_cases hv : v = dflt k
  · rw [if_pos hv]; exact he
  · rw [if_neg hv]
    refine ⟨pairwise_insertCell he.1 fun _ hm => (mem_eraseCells hm).2, fun cell hm => ?_⟩
    rcases mem_insertCell hm with rfl | hm'
    · exact ⟨hk, hv⟩
    · exact he.2 cell hm'

/-! The regions of a memory. -/

@[simp] theorem Memory.cells_setCells (m : Memory) (r q : Region) (cells : List Host.Cell) :
    (m.setCells r cells).cells q = if q = r then cells else m.cells q := by cases r <;> cases q <;> rfl

@[simp] theorem Memory.size_set (m : Memory) (r q : Region) (i : Nat) (v : Byte) : (m.set r i v).size q = m.size q := by
  cases r <;> cases q <;> rfl

@[simp] theorem Memory.romSize_set (m : Memory) (r : Region) (i : Nat) (v : Byte) : (m.set r i v).romSize = m.romSize := by
  cases r <;> rfl

@[simp] theorem Memory.extRamSize_set (m : Memory) (r : Region) (i : Nat) (v : Byte) :
    (m.set r i v).extRamSize = m.extRamSize := by cases r <;> rfl

/-- Reading one byte of memory after a write of one byte: the byte written, or what was there. -/
theorem Memory.get_set (m : Memory) (r q : Region) (i j : Nat) (v : Byte) :
    (m.set r i v).get q j = if q = r ∧ j = i then v else m.get q j := by
  by_cases hq : q = r
  · subst hq
    simp only [Memory.get, Memory.set, Memory.cells_setCells, if_true, readCells_writeCells, true_and]
  · simp [Memory.get, Memory.set, hq]

@[simp] theorem Memory.get_set_same (m : Memory) (r : Region) (i : Nat) (v : Byte) : (m.set r i v).get r i = v := by
  simp [Memory.get_set]

/-- A write of a byte inside a region keeps every region canonical. -/
theorem Memory.regionWf_set {m : Memory} {r q : Region} {i : Nat} {v : Byte} (h : m.regionWf q) (hi : i < m.size r) :
    (m.set r i v).regionWf q := by
  unfold Memory.regionWf
  rw [Memory.size_set]
  by_cases hq : q = r
  · subst hq
    simp only [Memory.set, Memory.cells_setCells, if_true]
    exact cellsWf_writeCells h hi
  · simp only [Memory.set, Memory.cells_setCells, if_neg hq]
    exact h

/-- A memory is canonical when each of its regions is. -/
theorem Memory.wf_iff (m : Memory) : m.wf ↔ ∀ r, m.regionWf r :=
  ⟨fun ⟨h1, h2, h3, h4, h5, h6, h7, h8⟩ r => by cases r <;> assumption,
   fun h => ⟨h _, h _, h _, h _, h _, h _, h _, h _⟩⟩

/-- A write of a byte inside a region keeps the memory canonical. -/
theorem Memory.wf_set {m : Memory} {r : Region} {i : Nat} {v : Byte} (h : m.wf) (hi : i < m.size r) :
    (m.set r i v).wf :=
  (Memory.wf_iff _).mpr fun q => Memory.regionWf_set ((Memory.wf_iff _).mp h q) hi

/-- External RAM stays canonical under a write through the cartridge. -/
theorem Memory.wf_ramPut {m : Memory} {off : Nat} {v : Byte} (h : m.wf) : (ramPut m off v).wf := by
  unfold ramPut
  by_cases ho : off < m.extRamSize
  · rw [if_pos ho]; exact Memory.wf_set h ho
  · rw [if_neg ho]; exact h

theorem Memory.wf_writeExternalRam {m : Memory} {bank : BankState} {addr : Nat} {v : Byte} (h : m.wf) :
    (writeExternalRam m bank addr v).wf := by
  unfold writeExternalRam
  split
  · exact h
  · exact Memory.wf_ramPut h

/-- An image's cells are canonical from its first offset on. -/
theorem cellsWf_imageCells (image : List Byte) (off : Nat) :
    CellsWf (unlisted .rom) (off + image.length) (imageCells off image) ∧ ∀ cell ∈ imageCells off image, off ≤ cell.1 := by
  induction image generalizing off with
  | nil => simp [imageCells, CellsWf]
  | cons v rest ih =>
    obtain ⟨⟨hp, hc⟩, hl⟩ := ih (off + 1)
    have hlen : off + 1 + rest.length = off + (v :: rest).length := by simp; omega
    unfold imageCells
    by_cases hv : v = unlisted .rom off
    · rw [if_pos hv]
      exact ⟨⟨hp, fun cell hm => ⟨hlen ▸ (hc cell hm).1, (hc cell hm).2⟩⟩, fun cell hm => by have := hl cell hm; omega⟩
    · rw [if_neg hv]
      refine ⟨⟨List.pairwise_cons.mpr ⟨fun cell hm => by have := hl cell hm; omega, hp⟩, fun cell hm => ?_⟩,
        fun cell hm => ?_⟩
      · rcases List.mem_cons.mp hm with rfl | hm'
        · exact ⟨by simp, hv⟩
        · exact ⟨hlen ▸ (hc cell hm').1, (hc cell hm').2⟩
      · rcases List.mem_cons.mp hm with rfl | hm'
        · exact Nat.le_refl _
        · have := hl cell hm'; omega

/-- What the cells of an image read as: the image's bytes, and zero beyond its end. -/
theorem readCells_imageCells (image : List Byte) (off k : Nat) :
    readCells (unlisted .rom) (off + k) (imageCells off image) = image.getD k 0 := by
  induction image generalizing off k with
  | nil => simp [imageCells, readCells, unlisted]
  | cons v rest ih =>
    cases k with
    | zero =>
      by_cases hv : v = unlisted .rom off
      · have hl := (cellsWf_imageCells rest (off + 1)).2
        have skip : ∀ cells : List Host.Cell, (∀ cell ∈ cells, off + 1 ≤ cell.1) →
            readCells (unlisted .rom) off cells = unlisted .rom off := by
          intro cells
          induction cells with
          | nil => intro _; rfl
          | cons cell cells ih2 =>
            intro h
            have := h cell List.mem_cons_self
            rw [readCells, if_neg (by omega)]
            exact ih2 fun c hc => h c (List.mem_cons_of_mem _ hc)
        rw [imageCells, if_pos hv, Nat.add_zero, skip _ hl, hv]
        rfl
      · simp [imageCells, hv, readCells]
    | succ k =>
      have h := ih (off + 1) k
      rw [show off + 1 + k = off + (k + 1) by omega] at h
      by_cases hv : v = unlisted .rom off
      · rw [imageCells, if_pos hv, h]; simp
      · rw [imageCells, if_neg hv, readCells, if_neg (by simp), h]; simp

/-- An image as R460 asks loads. -/
theorem loadCartridge_of_bootable {image : List Byte} (h : bootable image = true) :
    ∃ s, loadCartridge image = .next s := by
  simp only [bootable, Bool.and_eq_true, decide_eq_true_eq] at h
  obtain ⟨⟨⟨hlen, hc⟩, -⟩, -⟩ := h
  replace hlen : 0x150 ≤ image.length := hlen
  have hk : headerController { blankMemory image.length 0 with rom := imageCells 0 image } = image.getD 0x147 0 := by
    rw [headerController, romAt, if_pos (by simp [blankMemory]; omega)]
    exact readCells_imageCells image 0 0x147
  obtain ⟨p, hp⟩ := Option.isSome_iff_exists.mp hc
  unfold loadCartridge
  rw [if_neg (show ¬ image.length < Config.minImageLength from Nat.not_lt.mpr hlen)]
  dsimp only at hk ⊢
  rw [hk, hp]
  exact ⟨_, rfl⟩

/-- The machine of an image is what loading gives, where the image is as R460 asks. -/
theorem machineOf_eq_some {image : List Byte} {s : State} :
    machineOf image = some s ↔ bootable image = true ∧ loadCartridge image = .next s := by
  unfold machineOf
  by_cases hb : bootable image = true
  · obtain ⟨t, ht⟩ := loadCartridge_of_bootable hb
    simp [hb, ht]
  · simp [hb]

end Sys2Proof.Machine
end

