-- ==== Sys2Proof/Laws/State.lean ====
section
/-! SUPPORT. One lemma for each field and each named update of the state: what the update leaves there. -/

namespace Sys2Proof.Machine

variable (s : State)
/-! A fetched instruction (R280). -/
@[simp] theorem State.fetched_a (k : Nat) : (s.fetched k).a = s.a := rfl
@[simp] theorem State.fetched_b (k : Nat) : (s.fetched k).b = s.b := rfl
@[simp] theorem State.fetched_c (k : Nat) : (s.fetched k).c = s.c := rfl
@[simp] theorem State.fetched_d (k : Nat) : (s.fetched k).d = s.d := rfl
@[simp] theorem State.fetched_e (k : Nat) : (s.fetched k).e = s.e := rfl
@[simp] theorem State.fetched_h (k : Nat) : (s.fetched k).h = s.h := rfl
@[simp] theorem State.fetched_l (k : Nat) : (s.fetched k).l = s.l := rfl
@[simp] theorem State.fetched_f (k : Nat) : (s.fetched k).f = s.f := rfl
@[simp] theorem State.fetched_sp (k : Nat) : (s.fetched k).sp = s.sp := rfl
@[simp] theorem State.fetched_pc (k : Nat) : (s.fetched k).pc = s.pcAfterOpcode + BitVec.ofNat 16 k := rfl
@[simp] theorem State.fetched_ime (k : Nat) : (s.fetched k).ime = s.ime := rfl
@[simp] theorem State.fetched_imeDelay (k : Nat) : (s.fetched k).imeDelay = s.imeDelay := rfl
@[simp] theorem State.fetched_halted (k : Nat) : (s.fetched k).halted = s.halted := rfl
@[simp] theorem State.fetched_haltBug (k : Nat) : (s.fetched k).haltBug = false := rfl
@[simp] theorem State.fetched_clock (k : Nat) : (s.fetched k).clock = s.clock := rfl
@[simp] theorem State.fetched_cycles (k : Nat) : (s.fetched k).cycles = s.cycles := rfl
@[simp] theorem State.fetched_mem (k : Nat) : (s.fetched k).mem = s.mem := rfl
@[simp] theorem State.fetched_ie (k : Nat) : (s.fetched k).ie = s.ie := rfl
@[simp] theorem State.fetched_bank (k : Nat) : (s.fetched k).bank = s.bank := rfl
@[simp] theorem State.fetched_divAcc (k : Nat) : (s.fetched k).divAcc = s.divAcc := rfl
@[simp] theorem State.fetched_timaAcc (k : Nat) : (s.fetched k).timaAcc = s.timaAcc := rfl
@[simp] theorem State.fetched_mode (k : Nat) : (s.fetched k).mode = s.mode := rfl
@[simp] theorem State.fetched_lineCycles (k : Nat) : (s.fetched k).lineCycles = s.lineCycles := rfl
@[simp] theorem State.fetched_frameBuffer (k : Nat) : (s.fetched k).frameBuffer = s.frameBuffer := rfl
@[simp] theorem State.fetched_buttons (k : Nat) : (s.fetched k).buttons = s.buttons := rfl
@[simp] theorem State.fetched_buttonInputs (k : Nat) : (s.fetched k).buttonInputs = s.buttonInputs := rfl
@[simp] theorem State.fetched_serialTrace (k : Nat) : (s.fetched k).serialTrace = s.serialTrace := rfl
@[simp] theorem State.fetched_illegalLog (k : Nat) : (s.fetched k).illegalLog = s.illegalLog := rfl
@[simp] theorem State.fetched_framesReady (k : Nat) : (s.fetched k).framesReady = s.framesReady := rfl
@[simp] theorem State.fetched_apu (k : Nat) : (s.fetched k).apu = s.apu := rfl

/-! The reported cycle count. -/
@[simp] theorem State.reports_a (n : Nat) : (s.reports n).a = s.a := rfl
@[simp] theorem State.reports_b (n : Nat) : (s.reports n).b = s.b := rfl
@[simp] theorem State.reports_c (n : Nat) : (s.reports n).c = s.c := rfl
@[simp] theorem State.reports_d (n : Nat) : (s.reports n).d = s.d := rfl
@[simp] theorem State.reports_e (n : Nat) : (s.reports n).e = s.e := rfl
@[simp] theorem State.reports_h (n : Nat) : (s.reports n).h = s.h := rfl
@[simp] theorem State.reports_l (n : Nat) : (s.reports n).l = s.l := rfl
@[simp] theorem State.reports_f (n : Nat) : (s.reports n).f = s.f := rfl
@[simp] theorem State.reports_sp (n : Nat) : (s.reports n).sp = s.sp := rfl
@[simp] theorem State.reports_pc (n : Nat) : (s.reports n).pc = s.pc := rfl
@[simp] theorem State.reports_ime (n : Nat) : (s.reports n).ime = s.ime := rfl
@[simp] theorem State.reports_imeDelay (n : Nat) : (s.reports n).imeDelay = s.imeDelay := rfl
@[simp] theorem State.reports_halted (n : Nat) : (s.reports n).halted = s.halted := rfl
@[simp] theorem State.reports_haltBug (n : Nat) : (s.reports n).haltBug = s.haltBug := rfl
@[simp] theorem State.reports_clock (n : Nat) : (s.reports n).clock = s.clock := rfl
@[simp] theorem State.reports_cycles (n : Nat) : (s.reports n).cycles = n := rfl
@[simp] theorem State.reports_mem (n : Nat) : (s.reports n).mem = s.mem := rfl
@[simp] theorem State.reports_ie (n : Nat) : (s.reports n).ie = s.ie := rfl
@[simp] theorem State.reports_bank (n : Nat) : (s.reports n).bank = s.bank := rfl
@[simp] theorem State.reports_divAcc (n : Nat) : (s.reports n).divAcc = s.divAcc := rfl
@[simp] theorem State.reports_timaAcc (n : Nat) : (s.reports n).timaAcc = s.timaAcc := rfl
@[simp] theorem State.reports_mode (n : Nat) : (s.reports n).mode = s.mode := rfl
@[simp] theorem State.reports_lineCycles (n : Nat) : (s.reports n).lineCycles = s.lineCycles := rfl
@[simp] theorem State.reports_frameBuffer (n : Nat) : (s.reports n).frameBuffer = s.frameBuffer := rfl
@[simp] theorem State.reports_buttons (n : Nat) : (s.reports n).buttons = s.buttons := rfl
@[simp] theorem State.reports_buttonInputs (n : Nat) : (s.reports n).buttonInputs = s.buttonInputs := rfl
@[simp] theorem State.reports_serialTrace (n : Nat) : (s.reports n).serialTrace = s.serialTrace := rfl
@[simp] theorem State.reports_illegalLog (n : Nat) : (s.reports n).illegalLog = s.illegalLog := rfl
@[simp] theorem State.reports_framesReady (n : Nat) : (s.reports n).framesReady = s.framesReady := rfl
@[simp] theorem State.reports_apu (n : Nat) : (s.reports n).apu = s.apu := rfl

/-! Another memory. -/
@[simp] theorem State.withMem_a (m : Memory) : (s.withMem m).a = s.a := rfl
@[simp] theorem State.withMem_b (m : Memory) : (s.withMem m).b = s.b := rfl
@[simp] theorem State.withMem_c (m : Memory) : (s.withMem m).c = s.c := rfl
@[simp] theorem State.withMem_d (m : Memory) : (s.withMem m).d = s.d := rfl
@[simp] theorem State.withMem_e (m : Memory) : (s.withMem m).e = s.e := rfl
@[simp] theorem State.withMem_h (m : Memory) : (s.withMem m).h = s.h := rfl
@[simp] theorem State.withMem_l (m : Memory) : (s.withMem m).l = s.l := rfl
@[simp] theorem State.withMem_f (m : Memory) : (s.withMem m).f = s.f := rfl
@[simp] theorem State.withMem_sp (m : Memory) : (s.withMem m).sp = s.sp := rfl
@[simp] theorem State.withMem_pc (m : Memory) : (s.withMem m).pc = s.pc := rfl
@[simp] theorem State.withMem_ime (m : Memory) : (s.withMem m).ime = s.ime := rfl
@[simp] theorem State.withMem_imeDelay (m : Memory) : (s.withMem m).imeDelay = s.imeDelay := rfl
@[simp] theorem State.withMem_halted (m : Memory) : (s.withMem m).halted = s.halted := rfl
@[simp] theorem State.withMem_haltBug (m : Memory) : (s.withMem m).haltBug = s.haltBug := rfl
@[simp] theorem State.withMem_clock (m : Memory) : (s.withMem m).clock = s.clock := rfl
@[simp] theorem State.withMem_cycles (m : Memory) : (s.withMem m).cycles = s.cycles := rfl
@[simp] theorem State.withMem_mem (m : Memory) : (s.withMem m).mem = m := rfl
@[simp] theorem State.withMem_ie (m : Memory) : (s.withMem m).ie = s.ie := rfl
@[simp] theorem State.withMem_bank (m : Memory) : (s.withMem m).bank = s.bank := rfl
@[simp] theorem State.withMem_divAcc (m : Memory) : (s.withMem m).divAcc = s.divAcc := rfl
@[simp] theorem State.withMem_timaAcc (m : Memory) : (s.withMem m).timaAcc = s.timaAcc := rfl
@[simp] theorem State.withMem_mode (m : Memory) : (s.withMem m).mode = s.mode := rfl
@[simp] theorem State.withMem_lineCycles (m : Memory) : (s.withMem m).lineCycles = s.lineCycles := rfl
@[simp] theorem State.withMem_frameBuffer (m : Memory) : (s.withMem m).frameBuffer = s.frameBuffer := rfl
@[simp] theorem State.withMem_buttons (m : Memory) : (s.withMem m).buttons = s.buttons := rfl
@[simp] theorem State.withMem_buttonInputs (m : Memory) : (s.withMem m).buttonInputs = s.buttonInputs := rfl
@[simp] theorem State.withMem_serialTrace (m : Memory) : (s.withMem m).serialTrace = s.serialTrace := rfl
@[simp] theorem State.withMem_illegalLog (m : Memory) : (s.withMem m).illegalLog = s.illegalLog := rfl
@[simp] theorem State.withMem_framesReady (m : Memory) : (s.withMem m).framesReady = s.framesReady := rfl
@[simp] theorem State.withMem_apu (m : Memory) : (s.withMem m).apu = s.apu := rfl

/-! Other bank registers. -/
@[simp] theorem State.withBank_a (m : BankState) : (s.withBank m).a = s.a := rfl
@[simp] theorem State.withBank_b (m : BankState) : (s.withBank m).b = s.b := rfl
@[simp] theorem State.withBank_c (m : BankState) : (s.withBank m).c = s.c := rfl
@[simp] theorem State.withBank_d (m : BankState) : (s.withBank m).d = s.d := rfl
@[simp] theorem State.withBank_e (m : BankState) : (s.withBank m).e = s.e := rfl
@[simp] theorem State.withBank_h (m : BankState) : (s.withBank m).h = s.h := rfl
@[simp] theorem State.withBank_l (m : BankState) : (s.withBank m).l = s.l := rfl
@[simp] theorem State.withBank_f (m : BankState) : (s.withBank m).f = s.f := rfl
@[simp] theorem State.withBank_sp (m : BankState) : (s.withBank m).sp = s.sp := rfl
@[simp] theorem State.withBank_pc (m : BankState) : (s.withBank m).pc = s.pc := rfl
@[simp] theorem State.withBank_ime (m : BankState) : (s.withBank m).ime = s.ime := rfl
@[simp] theorem State.withBank_imeDelay (m : BankState) : (s.withBank m).imeDelay = s.imeDelay := rfl
@[simp] theorem State.withBank_halted (m : BankState) : (s.withBank m).halted = s.halted := rfl
@[simp] theorem State.withBank_haltBug (m : BankState) : (s.withBank m).haltBug = s.haltBug := rfl
@[simp] theorem State.withBank_clock (m : BankState) : (s.withBank m).clock = s.clock := rfl
@[simp] theorem State.withBank_cycles (m : BankState) : (s.withBank m).cycles = s.cycles := rfl
@[simp] theorem State.withBank_mem (m : BankState) : (s.withBank m).mem = s.mem := rfl
@[simp] theorem State.withBank_ie (m : BankState) : (s.withBank m).ie = s.ie := rfl
@[simp] theorem State.withBank_bank (m : BankState) : (s.withBank m).bank = m := rfl
@[simp] theorem State.withBank_divAcc (m : BankState) : (s.withBank m).divAcc = s.divAcc := rfl
@[simp] theorem State.withBank_timaAcc (m : BankState) : (s.withBank m).timaAcc = s.timaAcc := rfl
@[simp] theorem State.withBank_mode (m : BankState) : (s.withBank m).mode = s.mode := rfl
@[simp] theorem State.withBank_lineCycles (m : BankState) : (s.withBank m).lineCycles = s.lineCycles := rfl
@[simp] theorem State.withBank_frameBuffer (m : BankState) : (s.withBank m).frameBuffer = s.frameBuffer := rfl
@[simp] theorem State.withBank_buttons (m : BankState) : (s.withBank m).buttons = s.buttons := rfl
@[simp] theorem State.withBank_buttonInputs (m : BankState) : (s.withBank m).buttonInputs = s.buttonInputs := rfl
@[simp] theorem State.withBank_serialTrace (m : BankState) : (s.withBank m).serialTrace = s.serialTrace := rfl
@[simp] theorem State.withBank_illegalLog (m : BankState) : (s.withBank m).illegalLog = s.illegalLog := rfl
@[simp] theorem State.withBank_framesReady (m : BankState) : (s.withBank m).framesReady = s.framesReady := rfl
@[simp] theorem State.withBank_apu (m : BankState) : (s.withBank m).apu = s.apu := rfl

/-! The enable mask (R47). -/
@[simp] theorem State.setIe_a (v : Byte) : (s.setIe v).a = s.a := rfl
@[simp] theorem State.setIe_b (v : Byte) : (s.setIe v).b = s.b := rfl
@[simp] theorem State.setIe_c (v : Byte) : (s.setIe v).c = s.c := rfl
@[simp] theorem State.setIe_d (v : Byte) : (s.setIe v).d = s.d := rfl
@[simp] theorem State.setIe_e (v : Byte) : (s.setIe v).e = s.e := rfl
@[simp] theorem State.setIe_h (v : Byte) : (s.setIe v).h = s.h := rfl
@[simp] theorem State.setIe_l (v : Byte) : (s.setIe v).l = s.l := rfl
@[simp] theorem State.setIe_f (v : Byte) : (s.setIe v).f = s.f := rfl
@[simp] theorem State.setIe_sp (v : Byte) : (s.setIe v).sp = s.sp := rfl
@[simp] theorem State.setIe_pc (v : Byte) : (s.setIe v).pc = s.pc := rfl
@[simp] theorem State.setIe_ime (v : Byte) : (s.setIe v).ime = s.ime := rfl
@[simp] theorem State.setIe_imeDelay (v : Byte) : (s.setIe v).imeDelay = s.imeDelay := rfl
@[simp] theorem State.setIe_halted (v : Byte) : (s.setIe v).halted = s.halted := rfl
@[simp] theorem State.setIe_haltBug (v : Byte) : (s.setIe v).haltBug = s.haltBug := rfl
@[simp] theorem State.setIe_clock (v : Byte) : (s.setIe v).clock = s.clock := rfl
@[simp] theorem State.setIe_cycles (v : Byte) : (s.setIe v).cycles = s.cycles := rfl
@[simp] theorem State.setIe_mem (v : Byte) : (s.setIe v).mem = s.mem := rfl
@[simp] theorem State.setIe_ie (v : Byte) : (s.setIe v).ie = v := rfl
@[simp] theorem State.setIe_bank (v : Byte) : (s.setIe v).bank = s.bank := rfl
@[simp] theorem State.setIe_divAcc (v : Byte) : (s.setIe v).divAcc = s.divAcc := rfl
@[simp] theorem State.setIe_timaAcc (v : Byte) : (s.setIe v).timaAcc = s.timaAcc := rfl
@[simp] theorem State.setIe_mode (v : Byte) : (s.setIe v).mode = s.mode := rfl
@[simp] theorem State.setIe_lineCycles (v : Byte) : (s.setIe v).lineCycles = s.lineCycles := rfl
@[simp] theorem State.setIe_frameBuffer (v : Byte) : (s.setIe v).frameBuffer = s.frameBuffer := rfl
@[simp] theorem State.setIe_buttons (v : Byte) : (s.setIe v).buttons = s.buttons := rfl
@[simp] theorem State.setIe_buttonInputs (v : Byte) : (s.setIe v).buttonInputs = s.buttonInputs := rfl
@[simp] theorem State.setIe_serialTrace (v : Byte) : (s.setIe v).serialTrace = s.serialTrace := rfl
@[simp] theorem State.setIe_illegalLog (v : Byte) : (s.setIe v).illegalLog = s.illegalLog := rfl
@[simp] theorem State.setIe_framesReady (v : Byte) : (s.setIe v).framesReady = s.framesReady := rfl
@[simp] theorem State.setIe_apu (v : Byte) : (s.setIe v).apu = s.apu := rfl

/-! One byte of a region. -/
@[simp] theorem State.store_a (r : Region) (i : Nat) (v : Byte) : (s.store r i v).a = s.a := rfl
@[simp] theorem State.store_b (r : Region) (i : Nat) (v : Byte) : (s.store r i v).b = s.b := rfl
@[simp] theorem State.store_c (r : Region) (i : Nat) (v : Byte) : (s.store r i v).c = s.c := rfl
@[simp] theorem State.store_d (r : Region) (i : Nat) (v : Byte) : (s.store r i v).d = s.d := rfl
@[simp] theorem State.store_e (r : Region) (i : Nat) (v : Byte) : (s.store r i v).e = s.e := rfl
@[simp] theorem State.store_h (r : Region) (i : Nat) (v : Byte) : (s.store r i v).h = s.h := rfl
@[simp] theorem State.store_l (r : Region) (i : Nat) (v : Byte) : (s.store r i v).l = s.l := rfl
@[simp] theorem State.store_f (r : Region) (i : Nat) (v : Byte) : (s.store r i v).f = s.f := rfl
@[simp] theorem State.store_sp (r : Region) (i : Nat) (v : Byte) : (s.store r i v).sp = s.sp := rfl
@[simp] theorem State.store_pc (r : Region) (i : Nat) (v : Byte) : (s.store r i v).pc = s.pc := rfl
@[simp] theorem State.store_ime (r : Region) (i : Nat) (v : Byte) : (s.store r i v).ime = s.ime := rfl
@[simp] theorem State.store_imeDelay (r : Region) (i : Nat) (v : Byte) : (s.store r i v).imeDelay = s.imeDelay := rfl
@[simp] theorem State.store_halted (r : Region) (i : Nat) (v : Byte) : (s.store r i v).halted = s.halted := rfl
@[simp] theorem State.store_haltBug (r : Region) (i : Nat) (v : Byte) : (s.store r i v).haltBug = s.haltBug := rfl
@[simp] theorem State.store_clock (r : Region) (i : Nat) (v : Byte) : (s.store r i v).clock = s.clock := rfl
@[simp] theorem State.store_cycles (r : Region) (i : Nat) (v : Byte) : (s.store r i v).cycles = s.cycles := rfl
@[simp] theorem State.store_mem (r : Region) (i : Nat) (v : Byte) : (s.store r i v).mem = s.mem.set r i v := rfl
@[simp] theorem State.store_ie (r : Region) (i : Nat) (v : Byte) : (s.store r i v).ie = s.ie := rfl
@[simp] theorem State.store_bank (r : Region) (i : Nat) (v : Byte) : (s.store r i v).bank = s.bank := rfl
@[simp] theorem State.store_divAcc (r : Region) (i : Nat) (v : Byte) : (s.store r i v).divAcc = s.divAcc := rfl
@[simp] theorem State.store_timaAcc (r : Region) (i : Nat) (v : Byte) : (s.store r i v).timaAcc = s.timaAcc := rfl
@[simp] theorem State.store_mode (r : Region) (i : Nat) (v : Byte) : (s.store r i v).mode = s.mode := rfl
@[simp] theorem State.store_lineCycles (r : Region) (i : Nat) (v : Byte) : (s.store r i v).lineCycles = s.lineCycles := rfl
@[simp] theorem State.store_frameBuffer (r : Region) (i : Nat) (v : Byte) : (s.store r i v).frameBuffer = s.frameBuffer := rfl
@[simp] theorem State.store_buttons (r : Region) (i : Nat) (v : Byte) : (s.store r i v).buttons = s.buttons := rfl
@[simp] theorem State.store_buttonInputs (r : Region) (i : Nat) (v : Byte) : (s.store r i v).buttonInputs = s.buttonInputs := rfl
@[simp] theorem State.store_serialTrace (r : Region) (i : Nat) (v : Byte) : (s.store r i v).serialTrace = s.serialTrace := rfl
@[simp] theorem State.store_illegalLog (r : Region) (i : Nat) (v : Byte) : (s.store r i v).illegalLog = s.illegalLog := rfl
@[simp] theorem State.store_framesReady (r : Region) (i : Nat) (v : Byte) : (s.store r i v).framesReady = s.framesReady := rfl
@[simp] theorem State.store_apu (r : Region) (i : Nat) (v : Byte) : (s.store r i v).apu = s.apu := rfl

/-! The stored byte of an I/O register. -/
@[simp] theorem State.setIo_a (off : Nat) (v : Byte) : (s.setIo off v).a = s.a := rfl
@[simp] theorem State.setIo_b (off : Nat) (v : Byte) : (s.setIo off v).b = s.b := rfl
@[simp] theorem State.setIo_c (off : Nat) (v : Byte) : (s.setIo off v).c = s.c := rfl
@[simp] theorem State.setIo_d (off : Nat) (v : Byte) : (s.setIo off v).d = s.d := rfl
@[simp] theorem State.setIo_e (off : Nat) (v : Byte) : (s.setIo off v).e = s.e := rfl
@[simp] theorem State.setIo_h (off : Nat) (v : Byte) : (s.setIo off v).h = s.h := rfl
@[simp] theorem State.setIo_l (off : Nat) (v : Byte) : (s.setIo off v).l = s.l := rfl
@[simp] theorem State.setIo_f (off : Nat) (v : Byte) : (s.setIo off v).f = s.f := rfl
@[simp] theorem State.setIo_sp (off : Nat) (v : Byte) : (s.setIo off v).sp = s.sp := rfl
@[simp] theorem State.setIo_pc (off : Nat) (v : Byte) : (s.setIo off v).pc = s.pc := rfl
@[simp] theorem State.setIo_ime (off : Nat) (v : Byte) : (s.setIo off v).ime = s.ime := rfl
@[simp] theorem State.setIo_imeDelay (off : Nat) (v : Byte) : (s.setIo off v).imeDelay = s.imeDelay := rfl
@[simp] theorem State.setIo_halted (off : Nat) (v : Byte) : (s.setIo off v).halted = s.halted := rfl
@[simp] theorem State.setIo_haltBug (off : Nat) (v : Byte) : (s.setIo off v).haltBug = s.haltBug := rfl
@[simp] theorem State.setIo_clock (off : Nat) (v : Byte) : (s.setIo off v).clock = s.clock := rfl
@[simp] theorem State.setIo_cycles (off : Nat) (v : Byte) : (s.setIo off v).cycles = s.cycles := rfl
@[simp] theorem State.setIo_mem (off : Nat) (v : Byte) : (s.setIo off v).mem = s.mem.set .io off v := rfl
@[simp] theorem State.setIo_ie (off : Nat) (v : Byte) : (s.setIo off v).ie = s.ie := rfl
@[simp] theorem State.setIo_bank (off : Nat) (v : Byte) : (s.setIo off v).bank = s.bank := rfl
@[simp] theorem State.setIo_divAcc (off : Nat) (v : Byte) : (s.setIo off v).divAcc = s.divAcc := rfl
@[simp] theorem State.setIo_timaAcc (off : Nat) (v : Byte) : (s.setIo off v).timaAcc = s.timaAcc := rfl
@[simp] theorem State.setIo_mode (off : Nat) (v : Byte) : (s.setIo off v).mode = s.mode := rfl
@[simp] theorem State.setIo_lineCycles (off : Nat) (v : Byte) : (s.setIo off v).lineCycles = s.lineCycles := rfl
@[simp] theorem State.setIo_frameBuffer (off : Nat) (v : Byte) : (s.setIo off v).frameBuffer = s.frameBuffer := rfl
@[simp] theorem State.setIo_buttons (off : Nat) (v : Byte) : (s.setIo off v).buttons = s.buttons := rfl
@[simp] theorem State.setIo_buttonInputs (off : Nat) (v : Byte) : (s.setIo off v).buttonInputs = s.buttonInputs := rfl
@[simp] theorem State.setIo_serialTrace (off : Nat) (v : Byte) : (s.setIo off v).serialTrace = s.serialTrace := rfl
@[simp] theorem State.setIo_illegalLog (off : Nat) (v : Byte) : (s.setIo off v).illegalLog = s.illegalLog := rfl
@[simp] theorem State.setIo_framesReady (off : Nat) (v : Byte) : (s.setIo off v).framesReady = s.framesReady := rfl
@[simp] theorem State.setIo_apu (off : Nat) (v : Byte) : (s.setIo off v).apu = s.apu := rfl

/-! The pair BC (R11). -/
@[simp] theorem State.setBC_a (v : Word) : (s.setBC v).a = s.a := rfl
@[simp] theorem State.setBC_b (v : Word) : (s.setBC v).b = highByte v := rfl
@[simp] theorem State.setBC_c (v : Word) : (s.setBC v).c = lowByte v := rfl
@[simp] theorem State.setBC_d (v : Word) : (s.setBC v).d = s.d := rfl
@[simp] theorem State.setBC_e (v : Word) : (s.setBC v).e = s.e := rfl
@[simp] theorem State.setBC_h (v : Word) : (s.setBC v).h = s.h := rfl
@[simp] theorem State.setBC_l (v : Word) : (s.setBC v).l = s.l := rfl
@[simp] theorem State.setBC_f (v : Word) : (s.setBC v).f = s.f := rfl
@[simp] theorem State.setBC_sp (v : Word) : (s.setBC v).sp = s.sp := rfl
@[simp] theorem State.setBC_pc (v : Word) : (s.setBC v).pc = s.pc := rfl
@[simp] theorem State.setBC_ime (v : Word) : (s.setBC v).ime = s.ime := rfl
@[simp] theorem State.setBC_imeDelay (v : Word) : (s.setBC v).imeDelay = s.imeDelay := rfl
@[simp] theorem State.setBC_halted (v : Word) : (s.setBC v).halted = s.halted := rfl
@[simp] theorem State.setBC_haltBug (v : Word) : (s.setBC v).haltBug = s.haltBug := rfl
@[simp] theorem State.setBC_clock (v : Word) : (s.setBC v).clock = s.clock := rfl
@[simp] theorem State.setBC_cycles (v : Word) : (s.setBC v).cycles = s.cycles := rfl
@[simp] theorem State.setBC_mem (v : Word) : (s.setBC v).mem = s.mem := rfl
@[simp] theorem State.setBC_ie (v : Word) : (s.setBC v).ie = s.ie := rfl
@[simp] theorem State.setBC_bank (v : Word) : (s.setBC v).bank = s.bank := rfl
@[simp] theorem State.setBC_divAcc (v : Word) : (s.setBC v).divAcc = s.divAcc := rfl
@[simp] theorem State.setBC_timaAcc (v : Word) : (s.setBC v).timaAcc = s.timaAcc := rfl
@[simp] theorem State.setBC_mode (v : Word) : (s.setBC v).mode = s.mode := rfl
@[simp] theorem State.setBC_lineCycles (v : Word) : (s.setBC v).lineCycles = s.lineCycles := rfl
@[simp] theorem State.setBC_frameBuffer (v : Word) : (s.setBC v).frameBuffer = s.frameBuffer := rfl
@[simp] theorem State.setBC_buttons (v : Word) : (s.setBC v).buttons = s.buttons := rfl
@[simp] theorem State.setBC_buttonInputs (v : Word) : (s.setBC v).buttonInputs = s.buttonInputs := rfl
@[simp] theorem State.setBC_serialTrace (v : Word) : (s.setBC v).serialTrace = s.serialTrace := rfl
@[simp] theorem State.setBC_illegalLog (v : Word) : (s.setBC v).illegalLog = s.illegalLog := rfl
@[simp] theorem State.setBC_framesReady (v : Word) : (s.setBC v).framesReady = s.framesReady := rfl
@[simp] theorem State.setBC_apu (v : Word) : (s.setBC v).apu = s.apu := rfl

/-! The pair DE (R11). -/
@[simp] theorem State.setDE_a (v : Word) : (s.setDE v).a = s.a := rfl
@[simp] theorem State.setDE_b (v : Word) : (s.setDE v).b = s.b := rfl
@[simp] theorem State.setDE_c (v : Word) : (s.setDE v).c = s.c := rfl
@[simp] theorem State.setDE_d (v : Word) : (s.setDE v).d = highByte v := rfl
@[simp] theorem State.setDE_e (v : Word) : (s.setDE v).e = lowByte v := rfl
@[simp] theorem State.setDE_h (v : Word) : (s.setDE v).h = s.h := rfl
@[simp] theorem State.setDE_l (v : Word) : (s.setDE v).l = s.l := rfl
@[simp] theorem State.setDE_f (v : Word) : (s.setDE v).f = s.f := rfl
@[simp] theorem State.setDE_sp (v : Word) : (s.setDE v).sp = s.sp := rfl
@[simp] theorem State.setDE_pc (v : Word) : (s.setDE v).pc = s.pc := rfl
@[simp] theorem State.setDE_ime (v : Word) : (s.setDE v).ime = s.ime := rfl
@[simp] theorem State.setDE_imeDelay (v : Word) : (s.setDE v).imeDelay = s.imeDelay := rfl
@[simp] theorem State.setDE_halted (v : Word) : (s.setDE v).halted = s.halted := rfl
@[simp] theorem State.setDE_haltBug (v : Word) : (s.setDE v).haltBug = s.haltBug := rfl
@[simp] theorem State.setDE_clock (v : Word) : (s.setDE v).clock = s.clock := rfl
@[simp] theorem State.setDE_cycles (v : Word) : (s.setDE v).cycles = s.cycles := rfl
@[simp] theorem State.setDE_mem (v : Word) : (s.setDE v).mem = s.mem := rfl
@[simp] theorem State.setDE_ie (v : Word) : (s.setDE v).ie = s.ie := rfl
@[simp] theorem State.setDE_bank (v : Word) : (s.setDE v).bank = s.bank := rfl
@[simp] theorem State.setDE_divAcc (v : Word) : (s.setDE v).divAcc = s.divAcc := rfl
@[simp] theorem State.setDE_timaAcc (v : Word) : (s.setDE v).timaAcc = s.timaAcc := rfl
@[simp] theorem State.setDE_mode (v : Word) : (s.setDE v).mode = s.mode := rfl
@[simp] theorem State.setDE_lineCycles (v : Word) : (s.setDE v).lineCycles = s.lineCycles := rfl
@[simp] theorem State.setDE_frameBuffer (v : Word) : (s.setDE v).frameBuffer = s.frameBuffer := rfl
@[simp] theorem State.setDE_buttons (v : Word) : (s.setDE v).buttons = s.buttons := rfl
@[simp] theorem State.setDE_buttonInputs (v : Word) : (s.setDE v).buttonInputs = s.buttonInputs := rfl
@[simp] theorem State.setDE_serialTrace (v : Word) : (s.setDE v).serialTrace = s.serialTrace := rfl
@[simp] theorem State.setDE_illegalLog (v : Word) : (s.setDE v).illegalLog = s.illegalLog := rfl
@[simp] theorem State.setDE_framesReady (v : Word) : (s.setDE v).framesReady = s.framesReady := rfl
@[simp] theorem State.setDE_apu (v : Word) : (s.setDE v).apu = s.apu := rfl

/-! The pair HL (R11). -/
@[simp] theorem State.setHL_a (v : Word) : (s.setHL v).a = s.a := rfl
@[simp] theorem State.setHL_b (v : Word) : (s.setHL v).b = s.b := rfl
@[simp] theorem State.setHL_c (v : Word) : (s.setHL v).c = s.c := rfl
@[simp] theorem State.setHL_d (v : Word) : (s.setHL v).d = s.d := rfl
@[simp] theorem State.setHL_e (v : Word) : (s.setHL v).e = s.e := rfl
@[simp] theorem State.setHL_h (v : Word) : (s.setHL v).h = highByte v := rfl
@[simp] theorem State.setHL_l (v : Word) : (s.setHL v).l = lowByte v := rfl
@[simp] theorem State.setHL_f (v : Word) : (s.setHL v).f = s.f := rfl
@[simp] theorem State.setHL_sp (v : Word) : (s.setHL v).sp = s.sp := rfl
@[simp] theorem State.setHL_pc (v : Word) : (s.setHL v).pc = s.pc := rfl
@[simp] theorem State.setHL_ime (v : Word) : (s.setHL v).ime = s.ime := rfl
@[simp] theorem State.setHL_imeDelay (v : Word) : (s.setHL v).imeDelay = s.imeDelay := rfl
@[simp] theorem State.setHL_halted (v : Word) : (s.setHL v).halted = s.halted := rfl
@[simp] theorem State.setHL_haltBug (v : Word) : (s.setHL v).haltBug = s.haltBug := rfl
@[simp] theorem State.setHL_clock (v : Word) : (s.setHL v).clock = s.clock := rfl
@[simp] theorem State.setHL_cycles (v : Word) : (s.setHL v).cycles = s.cycles := rfl
@[simp] theorem State.setHL_mem (v : Word) : (s.setHL v).mem = s.mem := rfl
@[simp] theorem State.setHL_ie (v : Word) : (s.setHL v).ie = s.ie := rfl
@[simp] theorem State.setHL_bank (v : Word) : (s.setHL v).bank = s.bank := rfl
@[simp] theorem State.setHL_divAcc (v : Word) : (s.setHL v).divAcc = s.divAcc := rfl
@[simp] theorem State.setHL_timaAcc (v : Word) : (s.setHL v).timaAcc = s.timaAcc := rfl
@[simp] theorem State.setHL_mode (v : Word) : (s.setHL v).mode = s.mode := rfl
@[simp] theorem State.setHL_lineCycles (v : Word) : (s.setHL v).lineCycles = s.lineCycles := rfl
@[simp] theorem State.setHL_frameBuffer (v : Word) : (s.setHL v).frameBuffer = s.frameBuffer := rfl
@[simp] theorem State.setHL_buttons (v : Word) : (s.setHL v).buttons = s.buttons := rfl
@[simp] theorem State.setHL_buttonInputs (v : Word) : (s.setHL v).buttonInputs = s.buttonInputs := rfl
@[simp] theorem State.setHL_serialTrace (v : Word) : (s.setHL v).serialTrace = s.serialTrace := rfl
@[simp] theorem State.setHL_illegalLog (v : Word) : (s.setHL v).illegalLog = s.illegalLog := rfl
@[simp] theorem State.setHL_framesReady (v : Word) : (s.setHL v).framesReady = s.framesReady := rfl
@[simp] theorem State.setHL_apu (v : Word) : (s.setHL v).apu = s.apu := rfl

/-! The pair AF (R11). -/
@[simp] theorem State.setAF_a (v : Word) : (s.setAF v).a = highByte v := rfl
@[simp] theorem State.setAF_b (v : Word) : (s.setAF v).b = s.b := rfl
@[simp] theorem State.setAF_c (v : Word) : (s.setAF v).c = s.c := rfl
@[simp] theorem State.setAF_d (v : Word) : (s.setAF v).d = s.d := rfl
@[simp] theorem State.setAF_e (v : Word) : (s.setAF v).e = s.e := rfl
@[simp] theorem State.setAF_h (v : Word) : (s.setAF v).h = s.h := rfl
@[simp] theorem State.setAF_l (v : Word) : (s.setAF v).l = s.l := rfl
@[simp] theorem State.setAF_f (v : Word) : (s.setAF v).f = flagsOfByte (lowByte v) := rfl
@[simp] theorem State.setAF_sp (v : Word) : (s.setAF v).sp = s.sp := rfl
@[simp] theorem State.setAF_pc (v : Word) : (s.setAF v).pc = s.pc := rfl
@[simp] theorem State.setAF_ime (v : Word) : (s.setAF v).ime = s.ime := rfl
@[simp] theorem State.setAF_imeDelay (v : Word) : (s.setAF v).imeDelay = s.imeDelay := rfl
@[simp] theorem State.setAF_halted (v : Word) : (s.setAF v).halted = s.halted := rfl
@[simp] theorem State.setAF_haltBug (v : Word) : (s.setAF v).haltBug = s.haltBug := rfl
@[simp] theorem State.setAF_clock (v : Word) : (s.setAF v).clock = s.clock := rfl
@[simp] theorem State.setAF_cycles (v : Word) : (s.setAF v).cycles = s.cycles := rfl
@[simp] theorem State.setAF_mem (v : Word) : (s.setAF v).mem = s.mem := rfl
@[simp] theorem State.setAF_ie (v : Word) : (s.setAF v).ie = s.ie := rfl
@[simp] theorem State.setAF_bank (v : Word) : (s.setAF v).bank = s.bank := rfl
@[simp] theorem State.setAF_divAcc (v : Word) : (s.setAF v).divAcc = s.divAcc := rfl
@[simp] theorem State.setAF_timaAcc (v : Word) : (s.setAF v).timaAcc = s.timaAcc := rfl
@[simp] theorem State.setAF_mode (v : Word) : (s.setAF v).mode = s.mode := rfl
@[simp] theorem State.setAF_lineCycles (v : Word) : (s.setAF v).lineCycles = s.lineCycles := rfl
@[simp] theorem State.setAF_frameBuffer (v : Word) : (s.setAF v).frameBuffer = s.frameBuffer := rfl
@[simp] theorem State.setAF_buttons (v : Word) : (s.setAF v).buttons = s.buttons := rfl
@[simp] theorem State.setAF_buttonInputs (v : Word) : (s.setAF v).buttonInputs = s.buttonInputs := rfl
@[simp] theorem State.setAF_serialTrace (v : Word) : (s.setAF v).serialTrace = s.serialTrace := rfl
@[simp] theorem State.setAF_illegalLog (v : Word) : (s.setAF v).illegalLog = s.illegalLog := rfl
@[simp] theorem State.setAF_framesReady (v : Word) : (s.setAF v).framesReady = s.framesReady := rfl
@[simp] theorem State.setAF_apu (v : Word) : (s.setAF v).apu = s.apu := rfl

/-! After a pop (R170). -/
@[simp] theorem State.afterPop_a : (s.afterPop).a = s.a := rfl
@[simp] theorem State.afterPop_b : (s.afterPop).b = s.b := rfl
@[simp] theorem State.afterPop_c : (s.afterPop).c = s.c := rfl
@[simp] theorem State.afterPop_d : (s.afterPop).d = s.d := rfl
@[simp] theorem State.afterPop_e : (s.afterPop).e = s.e := rfl
@[simp] theorem State.afterPop_h : (s.afterPop).h = s.h := rfl
@[simp] theorem State.afterPop_l : (s.afterPop).l = s.l := rfl
@[simp] theorem State.afterPop_f : (s.afterPop).f = s.f := rfl
@[simp] theorem State.afterPop_sp : (s.afterPop).sp = s.sp + 2 := rfl
@[simp] theorem State.afterPop_pc : (s.afterPop).pc = s.pc := rfl
@[simp] theorem State.afterPop_ime : (s.afterPop).ime = s.ime := rfl
@[simp] theorem State.afterPop_imeDelay : (s.afterPop).imeDelay = s.imeDelay := rfl
@[simp] theorem State.afterPop_halted : (s.afterPop).halted = s.halted := rfl
@[simp] theorem State.afterPop_haltBug : (s.afterPop).haltBug = s.haltBug := rfl
@[simp] theorem State.afterPop_clock : (s.afterPop).clock = s.clock := rfl
@[simp] theorem State.afterPop_cycles : (s.afterPop).cycles = s.cycles := rfl
@[simp] theorem State.afterPop_mem : (s.afterPop).mem = s.mem := rfl
@[simp] theorem State.afterPop_ie : (s.afterPop).ie = s.ie := rfl
@[simp] theorem State.afterPop_bank : (s.afterPop).bank = s.bank := rfl
@[simp] theorem State.afterPop_divAcc : (s.afterPop).divAcc = s.divAcc := rfl
@[simp] theorem State.afterPop_timaAcc : (s.afterPop).timaAcc = s.timaAcc := rfl
@[simp] theorem State.afterPop_mode : (s.afterPop).mode = s.mode := rfl
@[simp] theorem State.afterPop_lineCycles : (s.afterPop).lineCycles = s.lineCycles := rfl
@[simp] theorem State.afterPop_frameBuffer : (s.afterPop).frameBuffer = s.frameBuffer := rfl
@[simp] theorem State.afterPop_buttons : (s.afterPop).buttons = s.buttons := rfl
@[simp] theorem State.afterPop_buttonInputs : (s.afterPop).buttonInputs = s.buttonInputs := rfl
@[simp] theorem State.afterPop_serialTrace : (s.afterPop).serialTrace = s.serialTrace := rfl
@[simp] theorem State.afterPop_illegalLog : (s.afterPop).illegalLog = s.illegalLog := rfl
@[simp] theorem State.afterPop_framesReady : (s.afterPop).framesReady = s.framesReady := rfl
@[simp] theorem State.afterPop_apu : (s.afterPop).apu = s.apu := rfl

/-! A request (R303). -/
@[simp] theorem raiseIrq_a (i : Nat) : (raiseIrq i s).a = s.a := rfl
@[simp] theorem raiseIrq_b (i : Nat) : (raiseIrq i s).b = s.b := rfl
@[simp] theorem raiseIrq_c (i : Nat) : (raiseIrq i s).c = s.c := rfl
@[simp] theorem raiseIrq_d (i : Nat) : (raiseIrq i s).d = s.d := rfl
@[simp] theorem raiseIrq_e (i : Nat) : (raiseIrq i s).e = s.e := rfl
@[simp] theorem raiseIrq_h (i : Nat) : (raiseIrq i s).h = s.h := rfl
@[simp] theorem raiseIrq_l (i : Nat) : (raiseIrq i s).l = s.l := rfl
@[simp] theorem raiseIrq_f (i : Nat) : (raiseIrq i s).f = s.f := rfl
@[simp] theorem raiseIrq_sp (i : Nat) : (raiseIrq i s).sp = s.sp := rfl
@[simp] theorem raiseIrq_pc (i : Nat) : (raiseIrq i s).pc = s.pc := rfl
@[simp] theorem raiseIrq_ime (i : Nat) : (raiseIrq i s).ime = s.ime := rfl
@[simp] theorem raiseIrq_imeDelay (i : Nat) : (raiseIrq i s).imeDelay = s.imeDelay := rfl
@[simp] theorem raiseIrq_halted (i : Nat) : (raiseIrq i s).halted = s.halted := rfl
@[simp] theorem raiseIrq_haltBug (i : Nat) : (raiseIrq i s).haltBug = s.haltBug := rfl
@[simp] theorem raiseIrq_clock (i : Nat) : (raiseIrq i s).clock = s.clock := rfl
@[simp] theorem raiseIrq_cycles (i : Nat) : (raiseIrq i s).cycles = s.cycles := rfl
@[simp] theorem raiseIrq_mem (i : Nat) : (raiseIrq i s).mem = s.mem.set .io 0x0F (s.iflags ||| bitMask i) := rfl
@[simp] theorem raiseIrq_ie (i : Nat) : (raiseIrq i s).ie = s.ie := rfl
@[simp] theorem raiseIrq_bank (i : Nat) : (raiseIrq i s).bank = s.bank := rfl
@[simp] theorem raiseIrq_divAcc (i : Nat) : (raiseIrq i s).divAcc = s.divAcc := rfl
@[simp] theorem raiseIrq_timaAcc (i : Nat) : (raiseIrq i s).timaAcc = s.timaAcc := rfl
@[simp] theorem raiseIrq_mode (i : Nat) : (raiseIrq i s).mode = s.mode := rfl
@[simp] theorem raiseIrq_lineCycles (i : Nat) : (raiseIrq i s).lineCycles = s.lineCycles := rfl
@[simp] theorem raiseIrq_frameBuffer (i : Nat) : (raiseIrq i s).frameBuffer = s.frameBuffer := rfl
@[simp] theorem raiseIrq_buttons (i : Nat) : (raiseIrq i s).buttons = s.buttons := rfl
@[simp] theorem raiseIrq_buttonInputs (i : Nat) : (raiseIrq i s).buttonInputs = s.buttonInputs := rfl
@[simp] theorem raiseIrq_serialTrace (i : Nat) : (raiseIrq i s).serialTrace = s.serialTrace := rfl
@[simp] theorem raiseIrq_illegalLog (i : Nat) : (raiseIrq i s).illegalLog = s.illegalLog := rfl
@[simp] theorem raiseIrq_framesReady (i : Nat) : (raiseIrq i s).framesReady = s.framesReady := rfl
@[simp] theorem raiseIrq_apu (i : Nat) : (raiseIrq i s).apu = s.apu := rfl

/-! A change of mode (R376). -/
@[simp] theorem setMode_a (m : PpuMode) : (setMode m s).a = s.a := rfl
@[simp] theorem setMode_b (m : PpuMode) : (setMode m s).b = s.b := rfl
@[simp] theorem setMode_c (m : PpuMode) : (setMode m s).c = s.c := rfl
@[simp] theorem setMode_d (m : PpuMode) : (setMode m s).d = s.d := rfl
@[simp] theorem setMode_e (m : PpuMode) : (setMode m s).e = s.e := rfl
@[simp] theorem setMode_h (m : PpuMode) : (setMode m s).h = s.h := rfl
@[simp] theorem setMode_l (m : PpuMode) : (setMode m s).l = s.l := rfl
@[simp] theorem setMode_f (m : PpuMode) : (setMode m s).f = s.f := rfl
@[simp] theorem setMode_sp (m : PpuMode) : (setMode m s).sp = s.sp := rfl
@[simp] theorem setMode_pc (m : PpuMode) : (setMode m s).pc = s.pc := rfl
@[simp] theorem setMode_ime (m : PpuMode) : (setMode m s).ime = s.ime := rfl
@[simp] theorem setMode_imeDelay (m : PpuMode) : (setMode m s).imeDelay = s.imeDelay := rfl
@[simp] theorem setMode_halted (m : PpuMode) : (setMode m s).halted = s.halted := rfl
@[simp] theorem setMode_haltBug (m : PpuMode) : (setMode m s).haltBug = s.haltBug := rfl
@[simp] theorem setMode_clock (m : PpuMode) : (setMode m s).clock = s.clock := rfl
@[simp] theorem setMode_cycles (m : PpuMode) : (setMode m s).cycles = s.cycles := rfl
@[simp] theorem setMode_mem (m : PpuMode) : (setMode m s).mem = s.mem.set .io 0x41 ((s.stat &&& 0xFC) ||| m.bits) := rfl
@[simp] theorem setMode_ie (m : PpuMode) : (setMode m s).ie = s.ie := rfl
@[simp] theorem setMode_bank (m : PpuMode) : (setMode m s).bank = s.bank := rfl
@[simp] theorem setMode_divAcc (m : PpuMode) : (setMode m s).divAcc = s.divAcc := rfl
@[simp] theorem setMode_timaAcc (m : PpuMode) : (setMode m s).timaAcc = s.timaAcc := rfl
@[simp] theorem setMode_mode (m : PpuMode) : (setMode m s).mode = m := rfl
@[simp] theorem setMode_lineCycles (m : PpuMode) : (setMode m s).lineCycles = s.lineCycles := rfl
@[simp] theorem setMode_frameBuffer (m : PpuMode) : (setMode m s).frameBuffer = s.frameBuffer := rfl
@[simp] theorem setMode_buttons (m : PpuMode) : (setMode m s).buttons = s.buttons := rfl
@[simp] theorem setMode_buttonInputs (m : PpuMode) : (setMode m s).buttonInputs = s.buttonInputs := rfl
@[simp] theorem setMode_serialTrace (m : PpuMode) : (setMode m s).serialTrace = s.serialTrace := rfl
@[simp] theorem setMode_illegalLog (m : PpuMode) : (setMode m s).illegalLog = s.illegalLog := rfl
@[simp] theorem setMode_framesReady (m : PpuMode) : (setMode m s).framesReady = s.framesReady := rfl
@[simp] theorem setMode_apu (m : PpuMode) : (setMode m s).apu = s.apu := rfl

/-! The sound unit (R440). -/
@[simp] theorem apuStep_a (c : Nat) : (apuStep c s).a = s.a := rfl
@[simp] theorem apuStep_b (c : Nat) : (apuStep c s).b = s.b := rfl
@[simp] theorem apuStep_c (c : Nat) : (apuStep c s).c = s.c := rfl
@[simp] theorem apuStep_d (c : Nat) : (apuStep c s).d = s.d := rfl
@[simp] theorem apuStep_e (c : Nat) : (apuStep c s).e = s.e := rfl
@[simp] theorem apuStep_h (c : Nat) : (apuStep c s).h = s.h := rfl
@[simp] theorem apuStep_l (c : Nat) : (apuStep c s).l = s.l := rfl
@[simp] theorem apuStep_f (c : Nat) : (apuStep c s).f = s.f := rfl
@[simp] theorem apuStep_sp (c : Nat) : (apuStep c s).sp = s.sp := rfl
@[simp] theorem apuStep_pc (c : Nat) : (apuStep c s).pc = s.pc := rfl
@[simp] theorem apuStep_ime (c : Nat) : (apuStep c s).ime = s.ime := rfl
@[simp] theorem apuStep_imeDelay (c : Nat) : (apuStep c s).imeDelay = s.imeDelay := rfl
@[simp] theorem apuStep_halted (c : Nat) : (apuStep c s).halted = s.halted := rfl
@[simp] theorem apuStep_haltBug (c : Nat) : (apuStep c s).haltBug = s.haltBug := rfl
@[simp] theorem apuStep_clock (c : Nat) : (apuStep c s).clock = s.clock := rfl
@[simp] theorem apuStep_cycles (c : Nat) : (apuStep c s).cycles = s.cycles := rfl
@[simp] theorem apuStep_mem (c : Nat) : (apuStep c s).mem = s.mem := rfl
@[simp] theorem apuStep_ie (c : Nat) : (apuStep c s).ie = s.ie := rfl
@[simp] theorem apuStep_bank (c : Nat) : (apuStep c s).bank = s.bank := rfl
@[simp] theorem apuStep_divAcc (c : Nat) : (apuStep c s).divAcc = s.divAcc := rfl
@[simp] theorem apuStep_timaAcc (c : Nat) : (apuStep c s).timaAcc = s.timaAcc := rfl
@[simp] theorem apuStep_mode (c : Nat) : (apuStep c s).mode = s.mode := rfl
@[simp] theorem apuStep_lineCycles (c : Nat) : (apuStep c s).lineCycles = s.lineCycles := rfl
@[simp] theorem apuStep_frameBuffer (c : Nat) : (apuStep c s).frameBuffer = s.frameBuffer := rfl
@[simp] theorem apuStep_buttons (c : Nat) : (apuStep c s).buttons = s.buttons := rfl
@[simp] theorem apuStep_buttonInputs (c : Nat) : (apuStep c s).buttonInputs = s.buttonInputs := rfl
@[simp] theorem apuStep_serialTrace (c : Nat) : (apuStep c s).serialTrace = s.serialTrace := rfl
@[simp] theorem apuStep_illegalLog (c : Nat) : (apuStep c s).illegalLog = s.illegalLog := rfl
@[simp] theorem apuStep_framesReady (c : Nat) : (apuStep c s).framesReady = s.framesReady := rfl
@[simp] theorem apuStep_apu (c : Nat) : (apuStep c s).apu = apuAdvance c s.apu := rfl

/-! A register of the operand table (R123). -/
@[simp] theorem State.setReg_f (r : Reg8) (v : Byte) : (s.setReg r v).f = s.f := by cases r <;> rfl
@[simp] theorem State.setReg_sp (r : Reg8) (v : Byte) : (s.setReg r v).sp = s.sp := by cases r <;> rfl
@[simp] theorem State.setReg_pc (r : Reg8) (v : Byte) : (s.setReg r v).pc = s.pc := by cases r <;> rfl
@[simp] theorem State.setReg_ime (r : Reg8) (v : Byte) : (s.setReg r v).ime = s.ime := by cases r <;> rfl
@[simp] theorem State.setReg_imeDelay (r : Reg8) (v : Byte) : (s.setReg r v).imeDelay = s.imeDelay := by cases r <;> rfl
@[simp] theorem State.setReg_halted (r : Reg8) (v : Byte) : (s.setReg r v).halted = s.halted := by cases r <;> rfl
@[simp] theorem State.setReg_haltBug (r : Reg8) (v : Byte) : (s.setReg r v).haltBug = s.haltBug := by cases r <;> rfl
@[simp] theorem State.setReg_clock (r : Reg8) (v : Byte) : (s.setReg r v).clock = s.clock := by cases r <;> rfl
@[simp] theorem State.setReg_cycles (r : Reg8) (v : Byte) : (s.setReg r v).cycles = s.cycles := by cases r <;> rfl
@[simp] theorem State.setReg_mem (r : Reg8) (v : Byte) : (s.setReg r v).mem = s.mem := by cases r <;> rfl
@[simp] theorem State.setReg_ie (r : Reg8) (v : Byte) : (s.setReg r v).ie = s.ie := by cases r <;> rfl
@[simp] theorem State.setReg_bank (r : Reg8) (v : Byte) : (s.setReg r v).bank = s.bank := by cases r <;> rfl
@[simp] theorem State.setReg_divAcc (r : Reg8) (v : Byte) : (s.setReg r v).divAcc = s.divAcc := by cases r <;> rfl
@[simp] theorem State.setReg_timaAcc (r : Reg8) (v : Byte) : (s.setReg r v).timaAcc = s.timaAcc := by cases r <;> rfl
@[simp] theorem State.setReg_mode (r : Reg8) (v : Byte) : (s.setReg r v).mode = s.mode := by cases r <;> rfl
@[simp] theorem State.setReg_lineCycles (r : Reg8) (v : Byte) : (s.setReg r v).lineCycles = s.lineCycles := by cases r <;> rfl
@[simp] theorem State.setReg_frameBuffer (r : Reg8) (v : Byte) : (s.setReg r v).frameBuffer = s.frameBuffer := by cases r <;> rfl
@[simp] theorem State.setReg_buttons (r : Reg8) (v : Byte) : (s.setReg r v).buttons = s.buttons := by cases r <;> rfl
@[simp] theorem State.setReg_buttonInputs (r : Reg8) (v : Byte) : (s.setReg r v).buttonInputs = s.buttonInputs := by cases r <;> rfl
@[simp] theorem State.setReg_serialTrace (r : Reg8) (v : Byte) : (s.setReg r v).serialTrace = s.serialTrace := by cases r <;> rfl
@[simp] theorem State.setReg_illegalLog (r : Reg8) (v : Byte) : (s.setReg r v).illegalLog = s.illegalLog := by cases r <;> rfl
@[simp] theorem State.setReg_framesReady (r : Reg8) (v : Byte) : (s.setReg r v).framesReady = s.framesReady := by cases r <;> rfl
@[simp] theorem State.setReg_apu (r : Reg8) (v : Byte) : (s.setReg r v).apu = s.apu := by cases r <;> rfl

/-- Reading back a register, or another one. -/
theorem State.reg_setReg (r q : Reg8) (v : Byte) : (s.setReg r v).reg q = if q = r then v else s.reg q := by
  cases r <;> cases q <;> rfl

/-- What a read of memory sees of a state. -/
theorem State.readByte_congr {s t : State} (hm : t.mem = s.mem) (hb : t.bank = s.bank) (hi : t.ie = s.ie) (x : Word) :
    t.readByte x = s.readByte x := by
  simp only [State.readByte, State.ioByte, hm, hb, hi]

/-- The instruction at `PC` is read before anything changes: a fetched state reads the same bytes. -/
@[simp] theorem State.readByte_fetched (k : Nat) (x : Word) : (s.fetched k).readByte x = s.readByte x := rfl

@[simp] theorem State.readByte_setReg (r : Reg8) (v : Byte) (x : Word) : (s.setReg r v).readByte x = s.readByte x :=
  State.readByte_congr (by simp) (by simp) (by simp) x

end Sys2Proof.Machine
end

