-- ==== Sys2Proof/Laws/Ops.lean ====
section
/-! SUPPORT. What the shared operations can do: a store, a DMA, a push, an interrupt. -/

namespace Sys2Proof.Machine

/-- A DMA changes memory and nothing else (R66). -/
theorem oamDma_shape (v : Byte) (s : State) : ∃ mem, oamDma v s = { s with mem := mem } := by
  have h : ∀ (l : List Nat) (t : State), ∃ mem, l.foldl (dmaByte v) t = { t with mem := mem } := by
    intro l
    induction l with
    | nil => exact fun t => ⟨t.mem, rfl⟩
    | cons i rest ih =>
      intro t
      obtain ⟨mem, h⟩ := ih (dmaByte v t i)
      exact ⟨mem, by rw [List.foldl_cons, h]; rfl⟩
  exact h _ s

/-- What an I/O write comes to: some byte stored at its own offset, and the side effect of SC, DIV, DMA or a sound
register (R62, R68). -/
theorem writeIo_cases (s : State) (off : Nat) (v : Byte) :
    (∃ w, writeIo s off v = s.setIo off w) ∨
    (off = 0x02 ∧ v = 0x81 ∧ writeIo s off v = serialOut (s.setIo 0x02 v).sb (s.setIo 0x02 v)) ∨
    (off = 0x04 ∧ writeIo s off v = clearDivAcc (s.setIo 0x04 0x00)) ∨
    (off = 0x46 ∧ writeIo s off v = oamDma v (s.setIo 0x46 v)) ∨
    (isSoundOffset off = true ∧ writeIo s off v = notifyApu off v (s.setIo off v)) := by
  simp only [writeIo]
  by_cases h0 : off = 0x00
  · exact .inl ⟨_, by rw [if_pos h0, h0]⟩
  rw [if_neg h0]
  by_cases h1 : off = 0x02
  · rw [if_pos h1]
    by_cases hv : v = 0x81
    · exact .inr (.inl ⟨h1, hv, if_pos hv⟩)
    · exact .inl ⟨v, by rw [if_neg hv, h1]⟩
  rw [if_neg h1]
  by_cases h2 : off = 0x04
  · exact .inr (.inr (.inl ⟨h2, if_pos h2⟩))
  rw [if_neg h2]
  by_cases h3 : off = 0x41
  · exact .inl ⟨_, by rw [if_pos h3, h3]⟩
  rw [if_neg h3]
  by_cases h4 : off = 0x44
  · exact .inl ⟨_, by rw [if_pos h4, h4]⟩
  rw [if_neg h4]
  by_cases h5 : off = 0x46
  · exact .inr (.inr (.inr (.inl ⟨h5, if_pos h5⟩)))
  rw [if_neg h5]
  by_cases h6 : isSoundOffset off = true
  · exact .inr (.inr (.inr (.inr ⟨h6, if_pos h6⟩)))
  · exact .inl ⟨v, if_neg h6⟩

/-- All that an I/O write can change (R62). -/
theorem writeIo_shape (s : State) (off : Nat) (v : Byte) : ∃ mem divAcc serial apu,
    writeIo s off v = { s with mem := mem, divAcc := divAcc, serialTrace := serial, apu := apu } := by
  obtain ⟨w, h⟩ | ⟨-, -, h⟩ | ⟨-, h⟩ | ⟨-, h⟩ | ⟨-, h⟩ := writeIo_cases s off v <;> rw [h]
  · exact ⟨_, s.divAcc, s.serialTrace, s.apu, rfl⟩
  · exact ⟨_, s.divAcc, _, s.apu, rfl⟩
  · exact ⟨_, 0, s.serialTrace, s.apu, rfl⟩
  · obtain ⟨mem, g⟩ := oamDma_shape v (s.setIo 0x46 v)
    rw [g]
    exact ⟨mem, s.divAcc, s.serialTrace, s.apu, rfl⟩
  · exact ⟨_, s.divAcc, s.serialTrace, _, rfl⟩

/-- What a store comes to, region by region (R51). -/
theorem writeByte_cases (s : State) (x : Word) (v : Byte) :
    (x.toNat < 0x8000 ∧ s.writeByte x v = s.withBank (writeRomRegister s.bank x.toNat v)) ∨
    (0x8000 ≤ x.toNat ∧ ∃ r i, r ≠ .rom ∧ r ≠ .io ∧ i < s.mem.size r ∧ s.writeByte x v = s.store r i v) ∨
    (0xA000 ≤ x.toNat ∧ x.toNat < 0xC000 ∧ s.writeByte x v = s.withMem (writeExternalRam s.mem s.bank x.toNat v)) ∨
    (0xFEA0 ≤ x.toNat ∧ x.toNat < 0xFF00 ∧ s.writeByte x v = s) ∨
    (0xFF00 ≤ x.toNat ∧ x.toNat < 0xFF80 ∧ s.writeByte x v = writeIo s (x.toNat - 0xFF00) v) ∨
    (x.toNat = 0xFFFF ∧ s.writeByte x v = s.setIe v) := by
  have hx : x.toNat < 65536 := x.isLt
  simp only [State.writeByte]
  by_cases h0 : x.toNat < 0x8000
  · exact .inl ⟨h0, if_pos h0⟩
  refine .inr ?_
  rw [if_neg h0]
  by_cases h1 : x.toNat < 0xA000
  · exact .inl ⟨by omega, .vram, _, by decide, by decide, show _ < 8192 by omega, if_pos h1⟩
  rw [if_neg h1]
  by_cases h2 : x.toNat < 0xC000
  · exact .inr (.inl ⟨by omega, h2, if_pos h2⟩)
  rw [if_neg h2]
  by_cases h3 : x.toNat < 0xD000
  · exact .inl ⟨by omega, .wram0, _, by decide, by decide, show _ < 4096 by omega, if_pos h3⟩
  rw [if_neg h3]
  by_cases h4 : x.toNat < 0xE000
  · exact .inl ⟨by omega, .wram1, _, by decide, by decide, show _ < 4096 by omega, if_pos h4⟩
  rw [if_neg h4]
  by_cases h5 : x.toNat < 0xF000
  · exact .inl ⟨by omega, .wram0, _, by decide, by decide, show _ < 4096 by omega, if_pos h5⟩
  rw [if_neg h5]
  by_cases h6 : x.toNat < 0xFE00
  · exact .inl ⟨by omega, .wram1, _, by decide, by decide, show _ < 4096 by omega, if_pos h6⟩
  rw [if_neg h6]
  by_cases h7 : x.toNat < 0xFEA0
  · exact .inl ⟨by omega, .oam, _, by decide, by decide, show _ < 160 by omega, if_pos h7⟩
  rw [if_neg h7]
  by_cases h8 : x.toNat < 0xFF00
  · exact .inr (.inr (.inl ⟨by omega, h8, if_pos h8⟩))
  rw [if_neg h8]
  by_cases h9 : x.toNat < 0xFF80
  · exact .inr (.inr (.inr (.inl ⟨by omega, h9, if_pos h9⟩)))
  rw [if_neg h9]
  by_cases h10 : x.toNat < 0xFFFF
  · exact .inl ⟨by omega, .hram, _, by decide, by decide, show _ < 127 by omega, if_pos h10⟩
  · exact .inr (.inr (.inr (.inr ⟨by omega, if_neg h10⟩)))

/-- All that a store can change (R51, R53): no register, no flag, no control state. -/
theorem writeByte_shape (s : State) (x : Word) (v : Byte) : ∃ mem ie bank divAcc serial apu,
    s.writeByte x v =
      { s with mem := mem, ie := ie, bank := bank, divAcc := divAcc, serialTrace := serial, apu := apu } := by
  obtain ⟨-, h⟩ | ⟨-, r, i, -, -, -, h⟩ | ⟨-, -, h⟩ | ⟨-, -, h⟩ | ⟨-, -, h⟩ | ⟨-, h⟩ := writeByte_cases s x v <;> rw [h]
  · exact ⟨s.mem, s.ie, _, s.divAcc, s.serialTrace, s.apu, rfl⟩
  · exact ⟨_, s.ie, s.bank, s.divAcc, s.serialTrace, s.apu, rfl⟩
  · exact ⟨_, s.ie, s.bank, s.divAcc, s.serialTrace, s.apu, rfl⟩
  · exact ⟨s.mem, s.ie, s.bank, s.divAcc, s.serialTrace, s.apu, rfl⟩
  · obtain ⟨mem, divAcc, serial, apu, g⟩ := writeIo_shape s (x.toNat - 0xFF00) v
    rw [g]
    exact ⟨mem, s.ie, s.bank, divAcc, serial, apu, rfl⟩
  · exact ⟨s.mem, v, s.bank, s.divAcc, s.serialTrace, s.apu, rfl⟩

@[simp] theorem State.writeByte_a (s : State) (x : Word) (v : Byte) : (s.writeByte x v).a = s.a := by
  obtain ⟨_, _, _, _, _, _, h⟩ := writeByte_shape s x v; rw [h]
@[simp] theorem State.writeByte_b (s : State) (x : Word) (v : Byte) : (s.writeByte x v).b = s.b := by
  obtain ⟨_, _, _, _, _, _, h⟩ := writeByte_shape s x v; rw [h]
@[simp] theorem State.writeByte_c (s : State) (x : Word) (v : Byte) : (s.writeByte x v).c = s.c := by
  obtain ⟨_, _, _, _, _, _, h⟩ := writeByte_shape s x v; rw [h]
@[simp] theorem State.writeByte_d (s : State) (x : Word) (v : Byte) : (s.writeByte x v).d = s.d := by
  obtain ⟨_, _, _, _, _, _, h⟩ := writeByte_shape s x v; rw [h]
@[simp] theorem State.writeByte_e (s : State) (x : Word) (v : Byte) : (s.writeByte x v).e = s.e := by
  obtain ⟨_, _, _, _, _, _, h⟩ := writeByte_shape s x v; rw [h]
@[simp] theorem State.writeByte_h (s : State) (x : Word) (v : Byte) : (s.writeByte x v).h = s.h := by
  obtain ⟨_, _, _, _, _, _, h⟩ := writeByte_shape s x v; rw [h]
@[simp] theorem State.writeByte_l (s : State) (x : Word) (v : Byte) : (s.writeByte x v).l = s.l := by
  obtain ⟨_, _, _, _, _, _, h⟩ := writeByte_shape s x v; rw [h]
@[simp] theorem State.writeByte_f (s : State) (x : Word) (v : Byte) : (s.writeByte x v).f = s.f := by
  obtain ⟨_, _, _, _, _, _, h⟩ := writeByte_shape s x v; rw [h]
@[simp] theorem State.writeByte_sp (s : State) (x : Word) (v : Byte) : (s.writeByte x v).sp = s.sp := by
  obtain ⟨_, _, _, _, _, _, h⟩ := writeByte_shape s x v; rw [h]
@[simp] theorem State.writeByte_pc (s : State) (x : Word) (v : Byte) : (s.writeByte x v).pc = s.pc := by
  obtain ⟨_, _, _, _, _, _, h⟩ := writeByte_shape s x v; rw [h]
@[simp] theorem State.writeByte_ime (s : State) (x : Word) (v : Byte) : (s.writeByte x v).ime = s.ime := by
  obtain ⟨_, _, _, _, _, _, h⟩ := writeByte_shape s x v; rw [h]
@[simp] theorem State.writeByte_imeDelay (s : State) (x : Word) (v : Byte) : (s.writeByte x v).imeDelay = s.imeDelay := by
  obtain ⟨_, _, _, _, _, _, h⟩ := writeByte_shape s x v; rw [h]
@[simp] theorem State.writeByte_halted (s : State) (x : Word) (v : Byte) : (s.writeByte x v).halted = s.halted := by
  obtain ⟨_, _, _, _, _, _, h⟩ := writeByte_shape s x v; rw [h]
@[simp] theorem State.writeByte_haltBug (s : State) (x : Word) (v : Byte) : (s.writeByte x v).haltBug = s.haltBug := by
  obtain ⟨_, _, _, _, _, _, h⟩ := writeByte_shape s x v; rw [h]
@[simp] theorem State.writeByte_clock (s : State) (x : Word) (v : Byte) : (s.writeByte x v).clock = s.clock := by
  obtain ⟨_, _, _, _, _, _, h⟩ := writeByte_shape s x v; rw [h]
@[simp] theorem State.writeByte_cycles (s : State) (x : Word) (v : Byte) : (s.writeByte x v).cycles = s.cycles := by
  obtain ⟨_, _, _, _, _, _, h⟩ := writeByte_shape s x v; rw [h]
@[simp] theorem State.writeByte_timaAcc (s : State) (x : Word) (v : Byte) : (s.writeByte x v).timaAcc = s.timaAcc := by
  obtain ⟨_, _, _, _, _, _, h⟩ := writeByte_shape s x v; rw [h]
@[simp] theorem State.writeByte_mode (s : State) (x : Word) (v : Byte) : (s.writeByte x v).mode = s.mode := by
  obtain ⟨_, _, _, _, _, _, h⟩ := writeByte_shape s x v; rw [h]
@[simp] theorem State.writeByte_lineCycles (s : State) (x : Word) (v : Byte) : (s.writeByte x v).lineCycles = s.lineCycles := by
  obtain ⟨_, _, _, _, _, _, h⟩ := writeByte_shape s x v; rw [h]
@[simp] theorem State.writeByte_frameBuffer (s : State) (x : Word) (v : Byte) : (s.writeByte x v).frameBuffer = s.frameBuffer := by
  obtain ⟨_, _, _, _, _, _, h⟩ := writeByte_shape s x v; rw [h]
@[simp] theorem State.writeByte_buttons (s : State) (x : Word) (v : Byte) : (s.writeByte x v).buttons = s.buttons := by
  obtain ⟨_, _, _, _, _, _, h⟩ := writeByte_shape s x v; rw [h]
@[simp] theorem State.writeByte_buttonInputs (s : State) (x : Word) (v : Byte) : (s.writeByte x v).buttonInputs = s.buttonInputs := by
  obtain ⟨_, _, _, _, _, _, h⟩ := writeByte_shape s x v; rw [h]
@[simp] theorem State.writeByte_illegalLog (s : State) (x : Word) (v : Byte) : (s.writeByte x v).illegalLog = s.illegalLog := by
  obtain ⟨_, _, _, _, _, _, h⟩ := writeByte_shape s x v; rw [h]
@[simp] theorem State.writeByte_framesReady (s : State) (x : Word) (v : Byte) : (s.writeByte x v).framesReady = s.framesReady := by
  obtain ⟨_, _, _, _, _, _, h⟩ := writeByte_shape s x v; rw [h]

/-! A push (R170). -/

@[simp] theorem State.push16_a (s : State) (v : Word) : (s.push16 v).a = s.a := by simp [State.push16]
@[simp] theorem State.push16_b (s : State) (v : Word) : (s.push16 v).b = s.b := by simp [State.push16]
@[simp] theorem State.push16_c (s : State) (v : Word) : (s.push16 v).c = s.c := by simp [State.push16]
@[simp] theorem State.push16_d (s : State) (v : Word) : (s.push16 v).d = s.d := by simp [State.push16]
@[simp] theorem State.push16_e (s : State) (v : Word) : (s.push16 v).e = s.e := by simp [State.push16]
@[simp] theorem State.push16_h (s : State) (v : Word) : (s.push16 v).h = s.h := by simp [State.push16]
@[simp] theorem State.push16_l (s : State) (v : Word) : (s.push16 v).l = s.l := by simp [State.push16]
@[simp] theorem State.push16_f (s : State) (v : Word) : (s.push16 v).f = s.f := by simp [State.push16]
@[simp] theorem State.push16_sp (s : State) (v : Word) : (s.push16 v).sp = s.sp - 1 - 1 := by simp [State.push16]
@[simp] theorem State.push16_pc (s : State) (v : Word) : (s.push16 v).pc = s.pc := by simp [State.push16]
@[simp] theorem State.push16_ime (s : State) (v : Word) : (s.push16 v).ime = s.ime := by simp [State.push16]
@[simp] theorem State.push16_imeDelay (s : State) (v : Word) : (s.push16 v).imeDelay = s.imeDelay := by simp [State.push16]
@[simp] theorem State.push16_halted (s : State) (v : Word) : (s.push16 v).halted = s.halted := by simp [State.push16]
@[simp] theorem State.push16_haltBug (s : State) (v : Word) : (s.push16 v).haltBug = s.haltBug := by simp [State.push16]
@[simp] theorem State.push16_clock (s : State) (v : Word) : (s.push16 v).clock = s.clock := by simp [State.push16]
@[simp] theorem State.push16_cycles (s : State) (v : Word) : (s.push16 v).cycles = s.cycles := by simp [State.push16]
@[simp] theorem State.push16_timaAcc (s : State) (v : Word) : (s.push16 v).timaAcc = s.timaAcc := by simp [State.push16]
@[simp] theorem State.push16_mode (s : State) (v : Word) : (s.push16 v).mode = s.mode := by simp [State.push16]
@[simp] theorem State.push16_lineCycles (s : State) (v : Word) : (s.push16 v).lineCycles = s.lineCycles := by simp [State.push16]
@[simp] theorem State.push16_frameBuffer (s : State) (v : Word) : (s.push16 v).frameBuffer = s.frameBuffer := by simp [State.push16]
@[simp] theorem State.push16_buttons (s : State) (v : Word) : (s.push16 v).buttons = s.buttons := by simp [State.push16]
@[simp] theorem State.push16_buttonInputs (s : State) (v : Word) : (s.push16 v).buttonInputs = s.buttonInputs := by simp [State.push16]
@[simp] theorem State.push16_illegalLog (s : State) (v : Word) : (s.push16 v).illegalLog = s.illegalLog := by simp [State.push16]
@[simp] theorem State.push16_framesReady (s : State) (v : Word) : (s.push16 v).framesReady = s.framesReady := by simp [State.push16]

/-- The stack pointer after a push: 2 less. -/
theorem State.push16_sp_sub (s : State) (v : Word) : (s.push16 v).sp = s.sp - 2 := by
  rw [State.push16_sp, BitVec.sub_sub]; rfl

/-! The image and the sizes of the arrays never change (R55, R94). -/

/-- What a store never changes in memory. -/
def Memory.sameImage (m n : Memory) : Prop := n.rom = m.rom ∧ n.romSize = m.romSize ∧ n.extRamSize = m.extRamSize

theorem Memory.sameImage_set {m : Memory} {r : Region} {i : Nat} {v : Byte} (hr : r ≠ .rom) :
    m.sameImage (m.set r i v) := by
  cases r <;> first | exact absurd rfl hr | exact ⟨rfl, rfl, rfl⟩

theorem Memory.sameImage_trans {m n o : Memory} (h : m.sameImage n) (g : n.sameImage o) : m.sameImage o :=
  ⟨g.1.trans h.1, g.2.1.trans h.2.1, g.2.2.trans h.2.2⟩

theorem oamDma_sameImage (v : Byte) (s : State) : s.mem.sameImage (oamDma v s).mem := by
  have h : ∀ (l : List Nat) (t : State), t.mem.sameImage (l.foldl (dmaByte v) t).mem := by
    intro l
    induction l with
    | nil => exact fun t => ⟨rfl, rfl, rfl⟩
    | cons i rest ih =>
      exact fun t => Memory.sameImage_trans (Memory.sameImage_set (by decide)) (ih (dmaByte v t i))
  exact h _ s

theorem writeIo_sameImage (s : State) (off : Nat) (v : Byte) : s.mem.sameImage (writeIo s off v).mem := by
  obtain ⟨w, h⟩ | ⟨-, -, h⟩ | ⟨-, h⟩ | ⟨-, h⟩ | ⟨-, h⟩ := writeIo_cases s off v <;> rw [h]
  · exact Memory.sameImage_set (by decide)
  · exact Memory.sameImage_set (by decide)
  · exact Memory.sameImage_set (by decide)
  · exact Memory.sameImage_trans (Memory.sameImage_set (by decide)) (oamDma_sameImage v (s.setIo 0x46 v))
  · exact Memory.sameImage_set (by decide)

/-- A store never changes the image or the size of an array. -/
theorem State.writeByte_sameImage (s : State) (x : Word) (v : Byte) : s.mem.sameImage (s.writeByte x v).mem := by
  obtain ⟨-, h⟩ | ⟨-, r, i, hr, -, -, h⟩ | ⟨-, -, h⟩ | ⟨-, -, h⟩ | ⟨-, -, h⟩ | ⟨-, h⟩ := writeByte_cases s x v <;> rw [h]
  · exact ⟨rfl, rfl, rfl⟩
  · exact Memory.sameImage_set hr
  · rw [State.withMem_mem, writeExternalRam]
    split
    · exact ⟨rfl, rfl, rfl⟩
    · unfold ramPut
      split
      · exact Memory.sameImage_set (by decide)
      · exact ⟨rfl, rfl, rfl⟩
  · exact ⟨rfl, rfl, rfl⟩
  · exact writeIo_sameImage s _ v
  · exact ⟨rfl, rfl, rfl⟩

/-! Every store keeps memory canonical. -/

theorem oamDma_wf {v : Byte} {s : State} (hs : s.mem.wf) : (oamDma v s).mem.wf := by
  have h : ∀ (l : List Nat) (t : State), (∀ i ∈ l, i < 160) → t.mem.wf → (l.foldl (dmaByte v) t).mem.wf := by
    intro l
    induction l with
    | nil => exact fun t _ ht => ht
    | cons i rest ih =>
      intro t hl ht
      exact ih (dmaByte v t i) (fun j hj => hl j (List.mem_cons_of_mem _ hj)) (Memory.wf_set ht (hl i (by simp)))
  exact h _ s (fun i hi => List.mem_range.mp hi) hs

theorem writeIo_wf {s : State} {off : Nat} {v : Byte} (hs : s.mem.wf) (ho : off < 128) : (writeIo s off v).mem.wf := by
  obtain ⟨w, h⟩ | ⟨-, -, h⟩ | ⟨-, h⟩ | ⟨-, h⟩ | ⟨-, h⟩ := writeIo_cases s off v <;> rw [h]
  · exact Memory.wf_set hs ho
  · exact Memory.wf_set hs (show 2 < 128 by decide)
  · exact Memory.wf_set hs (show 4 < 128 by decide)
  · exact oamDma_wf (Memory.wf_set hs (show 0x46 < 128 by decide))
  · exact Memory.wf_set hs ho

/-- A store keeps memory canonical. -/
theorem State.writeByte_wf {s : State} (x : Word) (v : Byte) (hs : s.mem.wf) : (s.writeByte x v).mem.wf := by
  obtain ⟨-, h⟩ | ⟨-, r, i, -, -, hi, h⟩ | ⟨-, -, h⟩ | ⟨-, -, h⟩ | ⟨-, hx, h⟩ | ⟨-, h⟩ := writeByte_cases s x v <;> rw [h]
  · exact hs
  · exact Memory.wf_set hs hi
  · exact Memory.wf_writeExternalRam hs
  · exact hs
  · exact writeIo_wf hs (by omega)
  · exact hs

/-- A push keeps memory canonical. -/
theorem State.push16_wf {s : State} (v : Word) (hs : s.mem.wf) : (s.push16 v).mem.wf :=
  State.writeByte_wf _ _ (State.writeByte_wf _ _ hs)

/-- The stored byte of an I/O register stays canonical. -/
theorem State.setIo_wf {s : State} {off : Nat} (v : Byte) (hs : s.mem.wf) (ho : off < 128) : (s.setIo off v).mem.wf :=
  Memory.wf_set hs ho

/-- Reading an I/O register after one was set. -/
theorem State.ioByte_setIo (s : State) (off off' : Nat) (v : Byte) :
    (s.setIo off v).ioByte off' = if off' = off then v else s.ioByte off' := by
  simp [State.ioByte, State.setIo, Memory.get_set]

/-! Taking an interrupt (R311). -/

theorem takeInterrupt_pc (i : Nat) (s : State) : (takeInterrupt i s).pc = irqVector i := rfl
theorem takeInterrupt_ime (i : Nat) (s : State) : (takeInterrupt i s).ime = false := rfl
theorem takeInterrupt_halted (i : Nat) (s : State) : (takeInterrupt i s).halted = s.halted :=
  State.push16_halted s s.pc
theorem takeInterrupt_imeDelay (i : Nat) (s : State) : (takeInterrupt i s).imeDelay = s.imeDelay :=
  State.push16_imeDelay s s.pc
theorem takeInterrupt_sp (i : Nat) (s : State) : (takeInterrupt i s).sp = s.sp - 2 := State.push16_sp_sub s s.pc

theorem takeInterrupt_wf {i : Nat} {s : State} (hs : s.mem.wf) : (takeInterrupt i s).mem.wf :=
  Memory.wf_set (State.push16_wf s.pc hs) (show 15 < 128 by decide)

/-- When no bit is found, none of the five is raised (R310). -/
theorem lowestIrq_eq_none {p : Byte} (h : lowestIrq p = none) : ∀ i < 5, p.getLsbD i = false := by
  intro i hi
  have := List.find?_eq_none.mp h i (List.mem_range.mpr hi)
  simpa using this

/-- The request that is dispatched is raised, and no lower one is (R310, R312). -/
theorem lowestIrq_eq_some {p : Byte} {i : Nat} (h : lowestIrq p = some i) :
    i < 5 ∧ p.getLsbD i = true ∧ ∀ j < i, p.getLsbD j = false := by
  unfold lowestIrq at h
  have hp := List.find?_some h
  have hm := List.mem_of_find?_eq_some h
  refine ⟨List.mem_range.mp hm, by simpa using hp, fun j hj => ?_⟩
  have hi := List.mem_range.mp hm
  rw [List.find?_range_eq_some] at h
  simpa using h.2.2 j hj

end Sys2Proof.Machine
end

