-- ==== Sys2Proof/Laws/Devices.lean ====
section
/-! SUPPORT. What the devices can do to the state: each writes its own I/O registers and its own hidden state, and
nothing else (R307, R333). -/

namespace Sys2Proof.Machine

/-- Two memories that differ at most in the named I/O registers, with the canonical form kept. -/
structure Memory.sameBut (m n : Memory) (offs : List Nat) : Prop where
  image : m.sameImage n
  canonical : m.wf → n.wf
  elsewhere : ∀ r i, r ≠ .io ∨ i ∉ offs → n.get r i = m.get r i

theorem Memory.sameBut_refl (m : Memory) (offs : List Nat) : m.sameBut m offs :=
  ⟨⟨rfl, rfl, rfl⟩, id, fun _ _ _ => rfl⟩

theorem Memory.sameBut_trans {m n o : Memory} {offs : List Nat} (h : m.sameBut n offs) (g : n.sameBut o offs) :
    m.sameBut o offs :=
  ⟨Memory.sameImage_trans h.image g.image, g.canonical ∘ h.canonical,
    fun r i hi => (g.elsewhere r i hi).trans (h.elsewhere r i hi)⟩

theorem Memory.sameBut_mono {m n : Memory} {offs more : List Nat} (h : m.sameBut n offs) (hs : offs ⊆ more) :
    m.sameBut n more :=
  ⟨h.image, h.canonical, fun r i hi => h.elsewhere r i (hi.imp id fun g k => g (hs k))⟩

/-- One I/O register written. -/
theorem State.setIo_sameBut (s : State) {off : Nat} {offs : List Nat} (v : Byte) (ho : off < 128) (hm : off ∈ offs) :
    s.mem.sameBut (s.setIo off v).mem offs where
  image := Memory.sameImage_set (by decide)
  canonical := fun h => s.setIo_wf v h ho
  elsewhere := fun r i hi => by
    rw [State.setIo_mem, Memory.get_set, if_neg]
    rintro ⟨rfl, rfl⟩
    exact hi.elim (absurd rfl) (absurd hm)

/-! The timer. -/

/-- All that the divider and the timer can change (R343). -/
theorem timerStep_shape (c : Nat) (s : State) : ∃ mem divAcc timaAcc,
    s.mem.sameBut mem [0x04, 0x05, 0x0F] ∧
      timerStep c s = { s with mem := mem, divAcc := divAcc, timaAcc := timaAcc } := by
  have tick : ∀ t : State, ∃ mem, t.mem.sameBut mem [0x04, 0x05, 0x0F] ∧ timaTick t = { t with mem := mem } := by
    intro t
    by_cases h : t.tima = 0xFF
    · exact ⟨_, Memory.sameBut_trans (t.setIo_sameBut t.tma (off := 0x05) (by decide) (by decide))
        (State.setIo_sameBut (t.setIo 0x05 t.tma) _ (off := 0x0F) (by decide) (by decide)), if_pos h⟩
    · exact ⟨_, t.setIo_sameBut (t.tima + 1) (off := 0x05) (by decide) (by decide), if_neg h⟩
  have ticks : ∀ (n : Nat) (t : State), ∃ mem, t.mem.sameBut mem [0x04, 0x05, 0x0F] ∧
      timaTicks n t = { t with mem := mem } := by
    intro n
    induction n with
    | zero => exact fun t => ⟨t.mem, Memory.sameBut_refl _ _, rfl⟩
    | succ n ih =>
      intro t
      obtain ⟨m, hm, h⟩ := tick t
      obtain ⟨m', hm', h'⟩ := ih (timaTick t)
      rw [h] at hm' h'
      exact ⟨m', Memory.sameBut_trans hm hm', by rw [timaTicks, h, h']⟩
  have div : s.mem.sameBut (dividerStep c s).mem [0x04, 0x05, 0x0F] :=
    s.setIo_sameBut _ (off := 0x04) (by decide) (by decide)
  simp only [timerStep, counterStep]
  split
  · obtain ⟨m, hm, h⟩ := ticks (((dividerStep c s).timaAcc + c) / timerPeriod (dividerStep c s).tac)
      { dividerStep c s with timaAcc := ((dividerStep c s).timaAcc + c) % timerPeriod (dividerStep c s).tac }
    exact ⟨m, _, _, Memory.sameBut_trans div hm, h⟩
  · exact ⟨_, _, s.timaAcc, div, rfl⟩

/-! The picture unit. -/

/-- The I/O registers that the picture unit writes: IF, STAT and LY. -/
def ppuOffsets : List Nat := [0x0F, 0x41, 0x44]

/-- All that the picture unit can change: its registers, its mode, its cycle count, and the pictures. -/
def ppuReaches (s t : State) : Prop := ∃ mem mode lineCycles frame ready,
  s.mem.sameBut mem ppuOffsets ∧
    t = { s with mem := mem, mode := mode, lineCycles := lineCycles, frameBuffer := frame, framesReady := ready }

theorem ppuReaches_refl (s : State) : ppuReaches s s :=
  ⟨s.mem, s.mode, s.lineCycles, s.frameBuffer, s.framesReady, Memory.sameBut_refl _ _, rfl⟩

theorem ppuReaches_trans {s t u : State} (h : ppuReaches s t) (g : ppuReaches t u) : ppuReaches s u := by
  obtain ⟨m, _, _, _, _, hm, rfl⟩ := h
  obtain ⟨m', a, b, c, d, hm', rfl⟩ := g
  exact ⟨m', a, b, c, d, Memory.sameBut_trans hm hm', rfl⟩

theorem setIo_ppu (s : State) {off : Nat} (v : Byte) (ho : off < 128) (hm : off ∈ ppuOffsets) :
    ppuReaches s (s.setIo off v) :=
  ⟨_, s.mode, s.lineCycles, s.frameBuffer, s.framesReady, s.setIo_sameBut v ho hm, rfl⟩

theorem setMode_ppu (m : PpuMode) (s : State) : ppuReaches s (setMode m s) :=
  ⟨_, m, s.lineCycles, s.frameBuffer, s.framesReady, s.setIo_sameBut _ (off := 0x41) (by decide) (by decide), rfl⟩

theorem raiseIrq_ppu (i : Nat) (s : State) : ppuReaches s (raiseIrq i s) := setIo_ppu s _ (by decide) (by decide)

theorem raiseStat_ppu (bit : Nat) (s : State) : ppuReaches s (raiseStat bit s) := by
  unfold raiseStat
  split
  · exact raiseIrq_ppu 1 s
  · exact ppuReaches_refl s

theorem coincidenceCheck_ppu (s : State) : ppuReaches s (coincidenceCheck s) := by
  unfold coincidenceCheck
  split
  · exact ppuReaches_trans (setIo_ppu s _ (off := 0x41) (by decide) (by decide)) (raiseStat_ppu 6 _)
  · exact setIo_ppu s _ (by decide) (by decide)

theorem renderLine_ppu (ly : Nat) (s : State) : ppuReaches s (renderLine ly s) :=
  ⟨s.mem, s.mode, s.lineCycles, _, s.framesReady, Memory.sameBut_refl _ _, rfl⟩

theorem frameReady_ppu (s : State) : ppuReaches s (frameReady s) :=
  ⟨s.mem, s.mode, s.lineCycles, s.frameBuffer, _, Memory.sameBut_refl _ _, rfl⟩

theorem enterOamScan_ppu (s : State) : ppuReaches s (enterOamScan s) :=
  ppuReaches_trans (setMode_ppu _ s) (raiseStat_ppu 5 _)

theorem enterHBlank_ppu (s : State) : ppuReaches s (enterHBlank s) :=
  ppuReaches_trans (setMode_ppu _ s) (ppuReaches_trans (renderLine_ppu _ _) (raiseStat_ppu 3 _))

theorem enterVBlank_ppu (s : State) : ppuReaches s (enterVBlank s) :=
  ppuReaches_trans (setMode_ppu _ s) (ppuReaches_trans (raiseIrq_ppu 0 _)
    (ppuReaches_trans (frameReady_ppu _) (raiseStat_ppu 4 _)))

theorem leaveMode_ppu (s : State) : ppuReaches s (leaveMode s) := by
  unfold leaveMode
  split
  · exact setMode_ppu _ s
  · exact enterHBlank_ppu s
  · simp only [endHBlank]
    refine ppuReaches_trans (setIo_ppu s (s.ly + 1) (off := 0x44) (by decide) (by decide))
      (ppuReaches_trans ?_ (coincidenceCheck_ppu _))
    split
    · exact enterVBlank_ppu _
    · exact enterOamScan_ppu _
  · simp only [endVBlankLine]
    refine ppuReaches_trans (setIo_ppu s (s.ly + 1) (off := 0x44) (by decide) (by decide))
      (ppuReaches_trans ?_ (coincidenceCheck_ppu _))
    split
    · exact ppuReaches_trans (setIo_ppu _ 0 (off := 0x44) (by decide) (by decide)) (enterOamScan_ppu _)
    · exact ppuReaches_refl _

/-- All that the picture unit can change in a call (R375, R377). -/
theorem ppuStep_shape (c : Nat) (s : State) : ppuReaches s (ppuStep c s) := by
  have moved (n : Nat) : ppuReaches s { s with lineCycles := n } :=
    ⟨s.mem, s.mode, n, s.frameBuffer, s.framesReady, Memory.sameBut_refl _ _, rfl⟩
  simp only [ppuStep]
  split
  · split
    · exact ppuReaches_trans (moved _) (leaveMode_ppu _)
    · exact moved _
  · refine ppuReaches_trans ?_ (setMode_ppu .hBlank _)
    exact ⟨_, s.mode, 0, s.frameBuffer, s.framesReady, s.setIo_sameBut 0 (off := 0x44) (by decide) (by decide), rfl⟩

/-! The sound unit. -/

/-- What running on can do to a channel: its length counter does not grow, and every setting stays. Its envelope, its
sweep and its phase are free. -/
structure Channel.ranTo (ch later : Channel) : Prop where
  length : later.lengthCounter ≤ ch.lengthCounter
  repeats : later.repeats = ch.repeats
  dacOn : later.dacOn = ch.dacOn
  envelopeUp : later.envelopeUp = ch.envelopeUp
  waveIndex : later.waveIndex = ch.waveIndex
  shortPeriod : later.shortPeriod = ch.shortPeriod
  left : later.left = ch.left
  right : later.right = ch.right

theorem Channel.ranTo_refl (ch : Channel) : Channel.ranTo ch ch := ⟨Nat.le_refl _, rfl, rfl, rfl, rfl, rfl, rfl, rfl⟩

theorem Channel.ranTo_trans {ch d e : Channel} (h : Channel.ranTo ch d) (g : Channel.ranTo d e) : Channel.ranTo ch e :=
  ⟨g.length.trans h.length, g.repeats.trans h.repeats, g.dacOn.trans h.dacOn, g.envelopeUp.trans h.envelopeUp,
    g.waveIndex.trans h.waveIndex, g.shortPeriod.trans h.shortPeriod, g.left.trans h.left, g.right.trans h.right⟩

/-- What running on can do to the sound unit: each voice runs on; the master volumes and the seed stay. -/
structure Apu.ranTo (a b : Apu) : Prop where
  voices : ∀ v, Channel.ranTo (voiceChannel a v) (voiceChannel b v)
  volumeLeft : b.volumeLeft = a.volumeLeft
  volumeRight : b.volumeRight = a.volumeRight
  noiseSeed : b.noiseSeed = a.noiseSeed

theorem Apu.ranTo_refl (a : Apu) : Apu.ranTo a a := ⟨fun _ => Channel.ranTo_refl _, rfl, rfl, rfl⟩

theorem Apu.ranTo_trans {a b d : Apu} (h : Apu.ranTo a b) (g : Apu.ranTo b d) : Apu.ranTo a d :=
  ⟨fun v => Channel.ranTo_trans (h.voices v) (g.voices v), g.volumeLeft.trans h.volumeLeft,
    g.volumeRight.trans h.volumeRight, g.noiseSeed.trans h.noiseSeed⟩

theorem lengthClock_ranTo (ch : Channel) : Channel.ranTo ch (lengthClock ch) :=
  ⟨Nat.sub_le _ _, rfl, rfl, rfl, rfl, rfl, rfl, rfl⟩

theorem envelopeClock_ranTo (ch : Channel) : Channel.ranTo ch (envelopeClock ch) :=
  ⟨Nat.le_refl _, rfl, rfl, rfl, rfl, rfl, rfl, rfl⟩

theorem sweepClock_ranTo (ch : Channel) : Channel.ranTo ch (sweepClock ch) :=
  ⟨Nat.le_refl _, rfl, rfl, rfl, rfl, rfl, rfl, rfl⟩

theorem onChannels_ranTo {f : Channel → Channel} (h : ∀ ch, Channel.ranTo ch (f ch)) (a : Apu) :
    Apu.ranTo a (onChannels f a) :=
  ⟨fun v => by cases v <;> exact h _, rfl, rfl, rfl⟩

theorem clockLengths_ranTo (a : Apu) : Apu.ranTo a (clockLengths a) := by
  unfold clockLengths
  split
  · exact onChannels_ranTo lengthClock_ranTo a
  · exact Apu.ranTo_refl a

theorem clockSweep_ranTo (a : Apu) : Apu.ranTo a (clockSweep a) := by
  unfold clockSweep
  split
  · exact ⟨fun v => by cases v <;> first | exact sweepClock_ranTo _ | exact Channel.ranTo_refl _, rfl, rfl, rfl⟩
  · exact Apu.ranTo_refl a

theorem clockEnvelopes_ranTo (a : Apu) : Apu.ranTo a (clockEnvelopes a) := by
  unfold clockEnvelopes
  split
  · exact onChannels_ranTo envelopeClock_ranTo a
  · exact Apu.ranTo_refl a

/-- The sequencer's own place is no voice's. -/
theorem Apu.ranTo_sequencer {a b : Apu} (h : Apu.ranTo a b) (cycles step : Nat) :
    Apu.ranTo a { b with sequencerCycles := cycles, sequencerStep := step } :=
  ⟨fun v => by have k := h.voices v; cases v <;> exact k, h.volumeLeft, h.volumeRight, h.noiseSeed⟩

theorem sequencerTick_ranTo (a : Apu) : Apu.ranTo a (sequencerTick a) :=
  Apu.ranTo_sequencer (Apu.ranTo_trans (clockLengths_ranTo a)
    (Apu.ranTo_trans (clockSweep_ranTo _) (clockEnvelopes_ranTo _))) _ _

theorem sequencerTicks_ranTo (n : Nat) (a : Apu) : Apu.ranTo a (sequencerTicks n a) := by
  induction n generalizing a with
  | zero => exact Apu.ranTo_refl a
  | succ n ih => exact Apu.ranTo_trans (sequencerTick_ranTo a) (ih _)

theorem phaseClock_ranTo (c : Nat) (ch : Channel) : Channel.ranTo ch (phaseClock c ch) :=
  ⟨Nat.le_refl _, rfl, rfl, rfl, rfl, rfl, rfl, rfl⟩

/-- All that time does to the sound unit (R441). -/
theorem apuAdvance_ranTo (c : Nat) (a : Apu) : Apu.ranTo a (apuAdvance c a) :=
  Apu.ranTo_trans (Apu.ranTo_sequencer (onChannels_ranTo (phaseClock_ranTo c) a) _ _) (sequencerTicks_ranTo _ _)

/-- A channel whose length counter is 0 and which does not repeat gives 0, "regardless of its envelope/amplitude state"
(R441). -/
theorem voiceSample_of_length_zero {s : State} {v : Voice} (h : (voiceChannel s.apu v).lengthCounter = 0)
    (r : (voiceChannel s.apu v).repeats = false) : voiceSample s v = 0 := by
  simp [voiceSample, contributes, h, r]

/-- So it does at the next sample, however long the sound unit runs on (R441). -/
theorem apuStep_stays_silent {s : State} {v : Voice} (c : Nat) (h : (voiceChannel s.apu v).lengthCounter = 0)
    (r : (voiceChannel s.apu v).repeats = false) : voiceSample (apuStep c s) v = 0 := by
  have ran := (apuAdvance_ranTo c s.apu).voices v
  exact voiceSample_of_length_zero (s := apuStep c s) (Nat.le_zero.mp (h ▸ ran.length)) (ran.repeats.trans r)

/-! The joypad, and the devices together. -/

/-- All that the joypad latch can change: P1 and IF (R422). -/
theorem joypadStep_shape (s : State) : ∃ mem, s.mem.sameBut mem [0x00, 0x0F] ∧ joypadStep s = { s with mem := mem } := by
  have latch := s.setIo_sameBut ((s.p1 &&& 0xF0) ||| joypadNibble s.p1 s.buttons) (off := 0x00)
    (offs := [0x00, 0x0F]) (by decide) (by decide)
  simp only [joypadStep]
  split
  · exact ⟨_, latch, rfl⟩
  · exact ⟨_, Memory.sameBut_trans latch (State.setIo_sameBut _ _ (off := 0x0F) (by decide) (by decide)), rfl⟩

/-- The I/O registers that some device writes. -/
def deviceOffsets : List Nat := [0x00, 0x04, 0x05, 0x0F, 0x41, 0x44]

/-- All that the devices can change, whatever the cycles: no register or control state of the processor, no bank
register, and no byte of memory but P1, DIV, TIMA, IF, STAT and LY (R307). -/
theorem advanceDevices_shape (c : Nat) (s : State) : ∃ mem divAcc timaAcc mode lineCycles frame ready apu,
    s.mem.sameBut mem deviceOffsets ∧
      advanceDevices c s =
        { s with
          mem := mem, divAcc := divAcc, timaAcc := timaAcc, mode := mode, lineCycles := lineCycles
          frameBuffer := frame, framesReady := ready, apu := apu } := by
  obtain ⟨m1, d, t, h1, e1⟩ := timerStep_shape c s
  obtain ⟨m2, mode, n, frame, ready, h2, e2⟩ := ppuStep_shape c (timerStep c s)
  obtain ⟨m3, h3, e3⟩ := joypadStep_shape (ppuStep c (timerStep c s))
  rw [e2] at h3 e3
  rw [e1] at h2 e2 e3
  refine ⟨m3, d, t, mode, n, frame, ready, apuAdvance c s.apu, ?_, ?_⟩
  · exact Memory.sameBut_trans (Memory.sameBut_mono h1 (by decide))
      (Memory.sameBut_trans (Memory.sameBut_mono h2 (by decide)) (Memory.sameBut_mono h3 (by decide)))
  · rw [advanceDevices, e1, e2, e3]
    rfl

end Sys2Proof.Machine
end

