-- ==== Sys2Proof/Tests/Slice0.lean ====
section
/-! SUPPORT. The model's own tests: the check of well-formedness, the word of every instruction, one-step vectors of the
spec, and for each statement with hypotheses a state that meets them. -/

namespace Sys2Proof.Tests

-- One theorem at a time: side by side, their checks want a thread each.
set_option Elab.async false

open Sys2Proof Sys2Proof.Machine

/-! Well-formedness. -/

theorem test_bare_prefix_is_ill_formed : ¬ WellFormed .prefixCB := by decide

theorem test_instruction_is_well_formed : WellFormed (.ldBCN16 0x1234) := by decide

/-! Decoding: the words of the two tables, each written out from the encoding of its rule in 40_load8.md to
46_cpu_control.md (operand bytes 0x34, or 0x34 0x12), row by row of the grids of R128 and R129. -/

/-- Whether a list of bytes is read as this instruction, with nothing left over. -/
def reads (bytes : List Byte) (i : Instr) : Bool :=
  match decode bytes with
  | .ok (j, []) => decide (j = i)
  | _ => false

/-- Every pair is a word and what it is read as. -/
def readsAll (pairs : List (List Byte × Instr)) : Bool := pairs.all fun p => reads p.1 p.2

theorem test_words_00_to_0F : readsAll
  [([0b00000000], .nop), ([0b00000001, 0x34, 0x12], .ldBCN16 0x1234), ([0b00000010], .ldIndBCA),
   ([0b00000011], .incBC), ([0b00000100], .incB), ([0b00000101], .decB), ([0b00000110, 0x34], .ldBN8 0x34),
   ([0b00000111], .rlca), ([0b00001000, 0x34, 0x12], .ldIndA16SP 0x1234), ([0b00001001], .addHLBC),
   ([0b00001010], .ldAIndBC), ([0b00001011], .decBC), ([0b00001100], .incC), ([0b00001101], .decC),
   ([0b00001110, 0x34], .ldCN8 0x34), ([0b00001111], .rrca)] = true := by
  decide +kernel

theorem test_words_10_to_1F : readsAll
  [([0b00010000], .stop), ([0b00010001, 0x34, 0x12], .ldDEN16 0x1234), ([0b00010010], .ldIndDEA),
   ([0b00010011], .incDE), ([0b00010100], .incD), ([0b00010101], .decD), ([0b00010110, 0x34], .ldDN8 0x34),
   ([0b00010111], .rla), ([0b00011000, 0x34], .jrE8 0x34), ([0b00011001], .addHLDE), ([0b00011010], .ldAIndDE),
   ([0b00011011], .decDE), ([0b00011100], .incE), ([0b00011101], .decE), ([0b00011110, 0x34], .ldEN8 0x34),
   ([0b00011111], .rra)] = true := by
  decide +kernel

theorem test_words_20_to_2F : readsAll
  [([0b00100000, 0x34], .jrNZE8 0x34), ([0b00100001, 0x34, 0x12], .ldHLN16 0x1234), ([0b00100010], .ldIndHLIncA),
   ([0b00100011], .incHL), ([0b00100100], .incH), ([0b00100101], .decH), ([0b00100110, 0x34], .ldHN8 0x34),
   ([0b00100111], .daa), ([0b00101000, 0x34], .jrZE8 0x34), ([0b00101001], .addHLHL), ([0b00101010], .ldAIndHLInc),
   ([0b00101011], .decHL), ([0b00101100], .incL), ([0b00101101], .decL), ([0b00101110, 0x34], .ldLN8 0x34),
   ([0b00101111], .cpl)] = true := by
  decide +kernel

theorem test_words_30_to_3F : readsAll
  [([0b00110000, 0x34], .jrNCE8 0x34), ([0b00110001, 0x34, 0x12], .ldSPN16 0x1234), ([0b00110010], .ldIndHLDecA),
   ([0b00110011], .incSP), ([0b00110100], .incIndHL), ([0b00110101], .decIndHL),
   ([0b00110110, 0x34], .ldIndHLN8 0x34), ([0b00110111], .scf), ([0b00111000, 0x34], .jrCE8 0x34),
   ([0b00111001], .addHLSP), ([0b00111010], .ldAIndHLDec), ([0b00111011], .decSP), ([0b00111100], .incA),
   ([0b00111101], .decA), ([0b00111110, 0x34], .ldAN8 0x34), ([0b00111111], .ccf)] = true := by
  decide +kernel

theorem test_words_40_to_4F : readsAll
  [([0b01000000], .ldBB), ([0b01000001], .ldBC), ([0b01000010], .ldBD), ([0b01000011], .ldBE), ([0b01000100], .ldBH),
   ([0b01000101], .ldBL), ([0b01000110], .ldBIndHL), ([0b01000111], .ldBA), ([0b01001000], .ldCB),
   ([0b01001001], .ldCC), ([0b01001010], .ldCD), ([0b01001011], .ldCE), ([0b01001100], .ldCH), ([0b01001101], .ldCL),
   ([0b01001110], .ldCIndHL), ([0b01001111], .ldCA)] = true := by
  decide +kernel

theorem test_words_50_to_5F : readsAll
  [([0b01010000], .ldDB), ([0b01010001], .ldDC), ([0b01010010], .ldDD), ([0b01010011], .ldDE), ([0b01010100], .ldDH),
   ([0b01010101], .ldDL), ([0b01010110], .ldDIndHL), ([0b01010111], .ldDA), ([0b01011000], .ldEB),
   ([0b01011001], .ldEC), ([0b01011010], .ldED), ([0b01011011], .ldEE), ([0b01011100], .ldEH), ([0b01011101], .ldEL),
   ([0b01011110], .ldEIndHL), ([0b01011111], .ldEA)] = true := by
  decide +kernel

theorem test_words_60_to_6F : readsAll
  [([0b01100000], .ldHB), ([0b01100001], .ldHC), ([0b01100010], .ldHD), ([0b01100011], .ldHE), ([0b01100100], .ldHH),
   ([0b01100101], .ldHL), ([0b01100110], .ldHIndHL), ([0b01100111], .ldHA), ([0b01101000], .ldLB),
   ([0b01101001], .ldLC), ([0b01101010], .ldLD), ([0b01101011], .ldLE), ([0b01101100], .ldLH), ([0b01101101], .ldLL),
   ([0b01101110], .ldLIndHL), ([0b01101111], .ldLA)] = true := by
  decide +kernel

theorem test_words_70_to_7F : readsAll
  [([0b01110000], .ldIndHLB), ([0b01110001], .ldIndHLC), ([0b01110010], .ldIndHLD), ([0b01110011], .ldIndHLE),
   ([0b01110100], .ldIndHLH), ([0b01110101], .ldIndHLL), ([0b01110110], .halt), ([0b01110111], .ldIndHLA),
   ([0b01111000], .ldAB), ([0b01111001], .ldAC), ([0b01111010], .ldAD), ([0b01111011], .ldAE), ([0b01111100], .ldAH),
   ([0b01111101], .ldAL), ([0b01111110], .ldAIndHL), ([0b01111111], .ldAA)] = true := by
  decide +kernel

theorem test_words_80_to_8F : readsAll
  [([0b10000000], .addAB), ([0b10000001], .addAC), ([0b10000010], .addAD), ([0b10000011], .addAE),
   ([0b10000100], .addAH), ([0b10000101], .addAL), ([0b10000110], .addAIndHL), ([0b10000111], .addAA),
   ([0b10001000], .adcAB), ([0b10001001], .adcAC), ([0b10001010], .adcAD), ([0b10001011], .adcAE),
   ([0b10001100], .adcAH), ([0b10001101], .adcAL), ([0b10001110], .adcAIndHL), ([0b10001111], .adcAA)] = true := by
  decide +kernel

theorem test_words_90_to_9F : readsAll
  [([0b10010000], .subB), ([0b10010001], .subC), ([0b10010010], .subD), ([0b10010011], .subE), ([0b10010100], .subH),
   ([0b10010101], .subL), ([0b10010110], .subIndHL), ([0b10010111], .subA), ([0b10011000], .sbcAB),
   ([0b10011001], .sbcAC), ([0b10011010], .sbcAD), ([0b10011011], .sbcAE), ([0b10011100], .sbcAH),
   ([0b10011101], .sbcAL), ([0b10011110], .sbcAIndHL), ([0b10011111], .sbcAA)] = true := by
  decide +kernel

theorem test_words_A0_to_AF : readsAll
  [([0b10100000], .andB), ([0b10100001], .andC), ([0b10100010], .andD), ([0b10100011], .andE), ([0b10100100], .andH),
   ([0b10100101], .andL), ([0b10100110], .andIndHL), ([0b10100111], .andA), ([0b10101000], .xorB),
   ([0b10101001], .xorC), ([0b10101010], .xorD), ([0b10101011], .xorE), ([0b10101100], .xorH), ([0b10101101], .xorL),
   ([0b10101110], .xorIndHL), ([0b10101111], .xorA)] = true := by
  decide +kernel

theorem test_words_B0_to_BF : readsAll
  [([0b10110000], .orB), ([0b10110001], .orC), ([0b10110010], .orD), ([0b10110011], .orE), ([0b10110100], .orH),
   ([0b10110101], .orL), ([0b10110110], .orIndHL), ([0b10110111], .orA), ([0b10111000], .cpB), ([0b10111001], .cpC),
   ([0b10111010], .cpD), ([0b10111011], .cpE), ([0b10111100], .cpH), ([0b10111101], .cpL), ([0b10111110], .cpIndHL),
   ([0b10111111], .cpA)] = true := by
  decide +kernel

theorem test_words_C0_to_CF : readsAll
  [([0b11000000], .retNZ), ([0b11000001], .popBC), ([0b11000010, 0x34, 0x12], .jpNZA16 0x1234),
   ([0b11000011, 0x34, 0x12], .jpA16 0x1234), ([0b11000100, 0x34, 0x12], .callNZA16 0x1234), ([0b11000101], .pushBC),
   ([0b11000110, 0x34], .addAN8 0x34), ([0b11000111], .rst00), ([0b11001000], .retZ), ([0b11001001], .ret),
   ([0b11001010, 0x34, 0x12], .jpZA16 0x1234), ([0b11001011], .prefixCB),
   ([0b11001100, 0x34, 0x12], .callZA16 0x1234), ([0b11001101, 0x34, 0x12], .callA16 0x1234),
   ([0b11001110, 0x34], .adcAN8 0x34), ([0b11001111], .rst08)] = true := by
  decide +kernel

theorem test_words_D0_to_DF : readsAll
  [([0b11010000], .retNC), ([0b11010001], .popDE), ([0b11010010, 0x34, 0x12], .jpNCA16 0x1234),
   ([0b11010011], .illegalD3), ([0b11010100, 0x34, 0x12], .callNCA16 0x1234), ([0b11010101], .pushDE),
   ([0b11010110, 0x34], .subN8 0x34), ([0b11010111], .rst10), ([0b11011000], .retC), ([0b11011001], .reti),
   ([0b11011010, 0x34, 0x12], .jpCA16 0x1234), ([0b11011011], .illegalDB),
   ([0b11011100, 0x34, 0x12], .callCA16 0x1234), ([0b11011101], .illegalDD), ([0b11011110, 0x34], .sbcAN8 0x34),
   ([0b11011111], .rst18)] = true := by
  decide +kernel

theorem test_words_E0_to_EF : readsAll
  [([0b11100000, 0x34], .ldhIndA8A 0x34), ([0b11100001], .popHL), ([0b11100010], .ldIndCA),
   ([0b11100011], .illegalE3), ([0b11100100], .illegalE4), ([0b11100101], .pushHL),
   ([0b11100110, 0x34], .andN8 0x34), ([0b11100111], .rst20), ([0b11101000, 0x34], .addSPE8 0x34),
   ([0b11101001], .jpHL), ([0b11101010, 0x34, 0x12], .ldIndA16A 0x1234), ([0b11101011], .illegalEB),
   ([0b11101100], .illegalEC), ([0b11101101], .illegalED), ([0b11101110, 0x34], .xorN8 0x34), ([0b11101111], .rst28)] = true := by
  decide +kernel

theorem test_words_F0_to_FF : readsAll
  [([0b11110000, 0x34], .ldhAIndA8 0x34), ([0b11110001], .popAF), ([0b11110010], .ldAIndC), ([0b11110011], .di),
   ([0b11110100], .illegalF4), ([0b11110101], .pushAF), ([0b11110110, 0x34], .orN8 0x34), ([0b11110111], .rst30),
   ([0b11111000, 0x34], .ldHLSPE8 0x34), ([0b11111001], .ldSPHL), ([0b11111010, 0x34, 0x12], .ldAIndA16 0x1234),
   ([0b11111011], .ei), ([0b11111100], .illegalFC), ([0b11111101], .illegalFD), ([0b11111110, 0x34], .cpN8 0x34),
   ([0b11111111], .rst38)] = true := by
  decide +kernel

theorem test_words_CB_00_to_0F : readsAll
  [([0b11001011, 0b00000000], .rlcB), ([0b11001011, 0b00000001], .rlcC), ([0b11001011, 0b00000010], .rlcD),
   ([0b11001011, 0b00000011], .rlcE), ([0b11001011, 0b00000100], .rlcH), ([0b11001011, 0b00000101], .rlcL),
   ([0b11001011, 0b00000110], .rlcIndHL), ([0b11001011, 0b00000111], .rlcA), ([0b11001011, 0b00001000], .rrcB),
   ([0b11001011, 0b00001001], .rrcC), ([0b11001011, 0b00001010], .rrcD), ([0b11001011, 0b00001011], .rrcE),
   ([0b11001011, 0b00001100], .rrcH), ([0b11001011, 0b00001101], .rrcL), ([0b11001011, 0b00001110], .rrcIndHL),
   ([0b11001011, 0b00001111], .rrcA)] = true := by
  decide +kernel

theorem test_words_CB_10_to_1F : readsAll
  [([0b11001011, 0b00010000], .rlB), ([0b11001011, 0b00010001], .rlC), ([0b11001011, 0b00010010], .rlD),
   ([0b11001011, 0b00010011], .rlE), ([0b11001011, 0b00010100], .rlH), ([0b11001011, 0b00010101], .rlL),
   ([0b11001011, 0b00010110], .rlIndHL), ([0b11001011, 0b00010111], .rlA), ([0b11001011, 0b00011000], .rrB),
   ([0b11001011, 0b00011001], .rrC), ([0b11001011, 0b00011010], .rrD), ([0b11001011, 0b00011011], .rrE),
   ([0b11001011, 0b00011100], .rrH), ([0b11001011, 0b00011101], .rrL), ([0b11001011, 0b00011110], .rrIndHL),
   ([0b11001011, 0b00011111], .rrA)] = true := by
  decide +kernel

theorem test_words_CB_20_to_2F : readsAll
  [([0b11001011, 0b00100000], .slaB), ([0b11001011, 0b00100001], .slaC), ([0b11001011, 0b00100010], .slaD),
   ([0b11001011, 0b00100011], .slaE), ([0b11001011, 0b00100100], .slaH), ([0b11001011, 0b00100101], .slaL),
   ([0b11001011, 0b00100110], .slaIndHL), ([0b11001011, 0b00100111], .slaA), ([0b11001011, 0b00101000], .sraB),
   ([0b11001011, 0b00101001], .sraC), ([0b11001011, 0b00101010], .sraD), ([0b11001011, 0b00101011], .sraE),
   ([0b11001011, 0b00101100], .sraH), ([0b11001011, 0b00101101], .sraL), ([0b11001011, 0b00101110], .sraIndHL),
   ([0b11001011, 0b00101111], .sraA)] = true := by
  decide +kernel

theorem test_words_CB_30_to_3F : readsAll
  [([0b11001011, 0b00110000], .swapB), ([0b11001011, 0b00110001], .swapC), ([0b11001011, 0b00110010], .swapD),
   ([0b11001011, 0b00110011], .swapE), ([0b11001011, 0b00110100], .swapH), ([0b11001011, 0b00110101], .swapL),
   ([0b11001011, 0b00110110], .swapIndHL), ([0b11001011, 0b00110111], .swapA), ([0b11001011, 0b00111000], .srlB),
   ([0b11001011, 0b00111001], .srlC), ([0b11001011, 0b00111010], .srlD), ([0b11001011, 0b00111011], .srlE),
   ([0b11001011, 0b00111100], .srlH), ([0b11001011, 0b00111101], .srlL), ([0b11001011, 0b00111110], .srlIndHL),
   ([0b11001011, 0b00111111], .srlA)] = true := by
  decide +kernel

theorem test_words_CB_40_to_4F : readsAll
  [([0b11001011, 0b01000000], .bit0B), ([0b11001011, 0b01000001], .bit0C), ([0b11001011, 0b01000010], .bit0D),
   ([0b11001011, 0b01000011], .bit0E), ([0b11001011, 0b01000100], .bit0H), ([0b11001011, 0b01000101], .bit0L),
   ([0b11001011, 0b01000110], .bit0IndHL), ([0b11001011, 0b01000111], .bit0A), ([0b11001011, 0b01001000], .bit1B),
   ([0b11001011, 0b01001001], .bit1C), ([0b11001011, 0b01001010], .bit1D), ([0b11001011, 0b01001011], .bit1E),
   ([0b11001011, 0b01001100], .bit1H), ([0b11001011, 0b01001101], .bit1L), ([0b11001011, 0b01001110], .bit1IndHL),
   ([0b11001011, 0b01001111], .bit1A)] = true := by
  decide +kernel

theorem test_words_CB_50_to_5F : readsAll
  [([0b11001011, 0b01010000], .bit2B), ([0b11001011, 0b01010001], .bit2C), ([0b11001011, 0b01010010], .bit2D),
   ([0b11001011, 0b01010011], .bit2E), ([0b11001011, 0b01010100], .bit2H), ([0b11001011, 0b01010101], .bit2L),
   ([0b11001011, 0b01010110], .bit2IndHL), ([0b11001011, 0b01010111], .bit2A), ([0b11001011, 0b01011000], .bit3B),
   ([0b11001011, 0b01011001], .bit3C), ([0b11001011, 0b01011010], .bit3D), ([0b11001011, 0b01011011], .bit3E),
   ([0b11001011, 0b01011100], .bit3H), ([0b11001011, 0b01011101], .bit3L), ([0b11001011, 0b01011110], .bit3IndHL),
   ([0b11001011, 0b01011111], .bit3A)] = true := by
  decide +kernel

theorem test_words_CB_60_to_6F : readsAll
  [([0b11001011, 0b01100000], .bit4B), ([0b11001011, 0b01100001], .bit4C), ([0b11001011, 0b01100010], .bit4D),
   ([0b11001011, 0b01100011], .bit4E), ([0b11001011, 0b01100100], .bit4H), ([0b11001011, 0b01100101], .bit4L),
   ([0b11001011, 0b01100110], .bit4IndHL), ([0b11001011, 0b01100111], .bit4A), ([0b11001011, 0b01101000], .bit5B),
   ([0b11001011, 0b01101001], .bit5C), ([0b11001011, 0b01101010], .bit5D), ([0b11001011, 0b01101011], .bit5E),
   ([0b11001011, 0b01101100], .bit5H), ([0b11001011, 0b01101101], .bit5L), ([0b11001011, 0b01101110], .bit5IndHL),
   ([0b11001011, 0b01101111], .bit5A)] = true := by
  decide +kernel

theorem test_words_CB_70_to_7F : readsAll
  [([0b11001011, 0b01110000], .bit6B), ([0b11001011, 0b01110001], .bit6C), ([0b11001011, 0b01110010], .bit6D),
   ([0b11001011, 0b01110011], .bit6E), ([0b11001011, 0b01110100], .bit6H), ([0b11001011, 0b01110101], .bit6L),
   ([0b11001011, 0b01110110], .bit6IndHL), ([0b11001011, 0b01110111], .bit6A), ([0b11001011, 0b01111000], .bit7B),
   ([0b11001011, 0b01111001], .bit7C), ([0b11001011, 0b01111010], .bit7D), ([0b11001011, 0b01111011], .bit7E),
   ([0b11001011, 0b01111100], .bit7H), ([0b11001011, 0b01111101], .bit7L), ([0b11001011, 0b01111110], .bit7IndHL),
   ([0b11001011, 0b01111111], .bit7A)] = true := by
  decide +kernel

theorem test_words_CB_80_to_8F : readsAll
  [([0b11001011, 0b10000000], .res0B), ([0b11001011, 0b10000001], .res0C), ([0b11001011, 0b10000010], .res0D),
   ([0b11001011, 0b10000011], .res0E), ([0b11001011, 0b10000100], .res0H), ([0b11001011, 0b10000101], .res0L),
   ([0b11001011, 0b10000110], .res0IndHL), ([0b11001011, 0b10000111], .res0A), ([0b11001011, 0b10001000], .res1B),
   ([0b11001011, 0b10001001], .res1C), ([0b11001011, 0b10001010], .res1D), ([0b11001011, 0b10001011], .res1E),
   ([0b11001011, 0b10001100], .res1H), ([0b11001011, 0b10001101], .res1L), ([0b11001011, 0b10001110], .res1IndHL),
   ([0b11001011, 0b10001111], .res1A)] = true := by
  decide +kernel

theorem test_words_CB_90_to_9F : readsAll
  [([0b11001011, 0b10010000], .res2B), ([0b11001011, 0b10010001], .res2C), ([0b11001011, 0b10010010], .res2D),
   ([0b11001011, 0b10010011], .res2E), ([0b11001011, 0b10010100], .res2H), ([0b11001011, 0b10010101], .res2L),
   ([0b11001011, 0b10010110], .res2IndHL), ([0b11001011, 0b10010111], .res2A), ([0b11001011, 0b10011000], .res3B),
   ([0b11001011, 0b10011001], .res3C), ([0b11001011, 0b10011010], .res3D), ([0b11001011, 0b10011011], .res3E),
   ([0b11001011, 0b10011100], .res3H), ([0b11001011, 0b10011101], .res3L), ([0b11001011, 0b10011110], .res3IndHL),
   ([0b11001011, 0b10011111], .res3A)] = true := by
  decide +kernel

theorem test_words_CB_A0_to_AF : readsAll
  [([0b11001011, 0b10100000], .res4B), ([0b11001011, 0b10100001], .res4C), ([0b11001011, 0b10100010], .res4D),
   ([0b11001011, 0b10100011], .res4E), ([0b11001011, 0b10100100], .res4H), ([0b11001011, 0b10100101], .res4L),
   ([0b11001011, 0b10100110], .res4IndHL), ([0b11001011, 0b10100111], .res4A), ([0b11001011, 0b10101000], .res5B),
   ([0b11001011, 0b10101001], .res5C), ([0b11001011, 0b10101010], .res5D), ([0b11001011, 0b10101011], .res5E),
   ([0b11001011, 0b10101100], .res5H), ([0b11001011, 0b10101101], .res5L), ([0b11001011, 0b10101110], .res5IndHL),
   ([0b11001011, 0b10101111], .res5A)] = true := by
  decide +kernel

theorem test_words_CB_B0_to_BF : readsAll
  [([0b11001011, 0b10110000], .res6B), ([0b11001011, 0b10110001], .res6C), ([0b11001011, 0b10110010], .res6D),
   ([0b11001011, 0b10110011], .res6E), ([0b11001011, 0b10110100], .res6H), ([0b11001011, 0b10110101], .res6L),
   ([0b11001011, 0b10110110], .res6IndHL), ([0b11001011, 0b10110111], .res6A), ([0b11001011, 0b10111000], .res7B),
   ([0b11001011, 0b10111001], .res7C), ([0b11001011, 0b10111010], .res7D), ([0b11001011, 0b10111011], .res7E),
   ([0b11001011, 0b10111100], .res7H), ([0b11001011, 0b10111101], .res7L), ([0b11001011, 0b10111110], .res7IndHL),
   ([0b11001011, 0b10111111], .res7A)] = true := by
  decide +kernel

theorem test_words_CB_C0_to_CF : readsAll
  [([0b11001011, 0b11000000], .set0B), ([0b11001011, 0b11000001], .set0C), ([0b11001011, 0b11000010], .set0D),
   ([0b11001011, 0b11000011], .set0E), ([0b11001011, 0b11000100], .set0H), ([0b11001011, 0b11000101], .set0L),
   ([0b11001011, 0b11000110], .set0IndHL), ([0b11001011, 0b11000111], .set0A), ([0b11001011, 0b11001000], .set1B),
   ([0b11001011, 0b11001001], .set1C), ([0b11001011, 0b11001010], .set1D), ([0b11001011, 0b11001011], .set1E),
   ([0b11001011, 0b11001100], .set1H), ([0b11001011, 0b11001101], .set1L), ([0b11001011, 0b11001110], .set1IndHL),
   ([0b11001011, 0b11001111], .set1A)] = true := by
  decide +kernel

theorem test_words_CB_D0_to_DF : readsAll
  [([0b11001011, 0b11010000], .set2B), ([0b11001011, 0b11010001], .set2C), ([0b11001011, 0b11010010], .set2D),
   ([0b11001011, 0b11010011], .set2E), ([0b11001011, 0b11010100], .set2H), ([0b11001011, 0b11010101], .set2L),
   ([0b11001011, 0b11010110], .set2IndHL), ([0b11001011, 0b11010111], .set2A), ([0b11001011, 0b11011000], .set3B),
   ([0b11001011, 0b11011001], .set3C), ([0b11001011, 0b11011010], .set3D), ([0b11001011, 0b11011011], .set3E),
   ([0b11001011, 0b11011100], .set3H), ([0b11001011, 0b11011101], .set3L), ([0b11001011, 0b11011110], .set3IndHL),
   ([0b11001011, 0b11011111], .set3A)] = true := by
  decide +kernel

theorem test_words_CB_E0_to_EF : readsAll
  [([0b11001011, 0b11100000], .set4B), ([0b11001011, 0b11100001], .set4C), ([0b11001011, 0b11100010], .set4D),
   ([0b11001011, 0b11100011], .set4E), ([0b11001011, 0b11100100], .set4H), ([0b11001011, 0b11100101], .set4L),
   ([0b11001011, 0b11100110], .set4IndHL), ([0b11001011, 0b11100111], .set4A), ([0b11001011, 0b11101000], .set5B),
   ([0b11001011, 0b11101001], .set5C), ([0b11001011, 0b11101010], .set5D), ([0b11001011, 0b11101011], .set5E),
   ([0b11001011, 0b11101100], .set5H), ([0b11001011, 0b11101101], .set5L), ([0b11001011, 0b11101110], .set5IndHL),
   ([0b11001011, 0b11101111], .set5A)] = true := by
  decide +kernel

theorem test_words_CB_F0_to_FF : readsAll
  [([0b11001011, 0b11110000], .set6B), ([0b11001011, 0b11110001], .set6C), ([0b11001011, 0b11110010], .set6D),
   ([0b11001011, 0b11110011], .set6E), ([0b11001011, 0b11110100], .set6H), ([0b11001011, 0b11110101], .set6L),
   ([0b11001011, 0b11110110], .set6IndHL), ([0b11001011, 0b11110111], .set6A), ([0b11001011, 0b11111000], .set7B),
   ([0b11001011, 0b11111001], .set7C), ([0b11001011, 0b11111010], .set7D), ([0b11001011, 0b11111011], .set7E),
   ([0b11001011, 0b11111100], .set7H), ([0b11001011, 0b11111101], .set7L), ([0b11001011, 0b11111110], .set7IndHL),
   ([0b11001011, 0b11111111], .set7A)] = true := by
  decide +kernel

theorem test_missing_operand_is_refused : decode [0x01, 0x34] = .error (.operandMissing 0x01) := rfl

theorem test_no_byte_is_refused : decode [] = .error .noOpcode := rfl

theorem test_table_row_of_the_second_table : decodeTableWord 16 0xCB37 = some .swapA := by decide +kernel

theorem test_table_row_is_run_after_reset :
    fetchInstr (State.reset.withFetchWord 16 0xCB37) = .swapA := by decide +kernel

/-! One instruction, the vectors of 95_test_vectors.md part 2. -/

/-- The reset state with bytes at 0x0100 and `F = 0`, as the vectors take it. -/
def code (bytes : List Byte) : State :=
  { State.reset with
    f := flagsOfByte 0
    mem := { blankMemory 0x8000 0 with rom := imageCells 0x100 bytes } }

/-- One `CpuStep`. -/
def after (s : State) : State :=
  match cpuStep s with
  | .next t => t
  | .fault _ | .refused _ => s

/-- One `MachineStep`. -/
def stepped (s : State) : State :=
  match step s with
  | .next t => t
  | .fault _ | .refused _ => s

/-- Whether an answer is a next state. -/
def isNext (x : Answer) : Bool :=
  match x with
  | .next _ => true
  | .fault _ | .refused _ => false

theorem exists_of_isNext {x : Answer} (h : isNext x = true) : ∃ t, x = .next t := by
  cases x with
  | next t => exact ⟨t, rfl⟩
  | fault e => exact absurd h (by simp [isNext])
  | refused e => exact absurd h (by simp [isNext])

/-- The flags as the byte `F`. -/
def flagByte (s : State) : Byte := s.f.toByte

/-- A byte stored in work RAM before the instruction. -/
def withByte (s : State) (addr : Word) (v : Byte) : State := s.writeByte addr v

theorem test_ld_register : (after { code [0x41] with c := 0x22 }).b = 0x22 := by decide +kernel

theorem test_ld_immediate : (after (code [0x16, 0x5A])).d = 0x5A ∧ (after (code [0x16, 0x5A])).pc = 0x0102 := by
  decide +kernel

theorem test_ld_from_HL_reads_own_opcode : (after ((code [0x7E]).setHL 0x0100)).a = 0x7E := by decide +kernel

theorem test_ld_to_rom_is_dropped : (after { (code [0x73]).setHL 0x2000 with e := 0x05 }).readByte 0x2000 = 0 := by
  decide +kernel

theorem test_ld_HL_inc_wraps :
    let t := after { (code [0x2A]).setHL 0xFFFF with ie := 0x1B }
    t.a = 0x1B ∧ t.hl = 0 ∧ t.cycles = 8 := by decide +kernel

theorem test_ld_HL_dec :
    let t := after { (code [0x32]).setHL 0xC000 with a := 0x9C }
    t.hl = 0xBFFF ∧ t.readByte 0xC000 = 0x9C := by decide +kernel

theorem test_ld_echo :
    let t := after { (code [0x02]).setBC 0xE010 with a := 0x42 }
    t.readByte 0xC010 = 0x42 ∧ t.readByte 0xE010 = 0x42 := by decide +kernel

theorem test_ld_unusable : (after ((code [0x1A]).setDE 0xFEA0)).a = 0xFF := by decide +kernel

theorem test_ldh_store : (after { code [0xE0, 0x80] with a := 0x3C }).readByte 0xFF80 = 0x3C := by decide +kernel

theorem test_ldh_load : (after ((code [0xF0, 0x44]).setIo 0x44 0x90)).a = 0x90 := by decide +kernel

theorem test_ld_C_store_reaches_IE : (after { code [0xE2] with c := 0xFF, a := 0x1F }).ie = 0x1F := by decide +kernel

theorem test_ld_C_load_P1 : (after { code [0xF2] with c := 0x00 }).a = 0xCF := by decide +kernel

theorem test_ld_direct_store :
    (after { code [0xEA, 0x00, 0xD0] with a := 0xAB }).readByte 0xF000 = 0xAB := by decide +kernel

theorem test_ld_direct_load_no_ram : (after (code [0xFA, 0x00, 0xA0])).a = 0xFF := by decide +kernel

theorem test_write_to_DIV_clears_it :
    let t := after { code [0xEA, 0x04, 0xFF] with a := 0x55, divAcc := 9 }
    t.div = 0 ∧ t.divAcc = 0 := by decide +kernel

theorem test_ld_pair : (after (code [0x01, 0x34, 0x12])).b = 0x12 := by decide +kernel

theorem test_ld_direct_SP :
    let t := after { code [0x08, 0x00, 0xC0] with sp := 0xFFF8 }
    t.readByte 0xC000 = 0xF8 ∧ t.readByte 0xC001 = 0xFF ∧ t.cycles = 20 := by decide +kernel

theorem test_push_AF :
    let t := after { code [0xF5] with a := 0x12, f := flagsOfByte 0xB0, sp := 0xD000 }
    t.readByte 0xCFFF = 0x12 ∧ t.readByte 0xCFFE = 0xB0 ∧ t.sp = 0xCFFE := by decide +kernel

theorem test_push_over_the_edge :
    let t := after { (code [0xE5]).setHL 0xBEEF with sp := 0x0001 }
    t.readByte 0x0000 = 0x00 ∧ t.ie = 0xEF ∧ t.sp = 0xFFFF := by decide +kernel

theorem test_pop_AF_drops_the_low_nibble :
    let t := after { withByte (withByte (code [0xF1]) 0xC000 0xFF) 0xC001 0x12 with sp := 0xC000 }
    t.a = 0x12 ∧ flagByte t = 0xF0 ∧ t.sp = 0xC002 := by decide +kernel

theorem test_ld_HL_SP_offset :
    let t := after { code [0xF8, 0xFF] with sp := 0x0001 }
    t.hl = 0x0000 ∧ flagByte t = 0x30 := by decide +kernel

theorem test_add :
    let t := after { code [0x80] with a := 0x3A, b := 0xC6 }
    t.a = 0x00 ∧ flagByte t = 0xB0 := by decide +kernel

theorem test_adc :
    let t := after { code [0xCE, 0xFF] with a := 0xFF, f := flagsOfByte 0x10 }
    t.a = 0xFF ∧ flagByte t = 0x30 := by decide +kernel

theorem test_sub :
    let t := after { code [0xD6, 0x01] with a := 0x00 }
    t.a = 0xFF ∧ flagByte t = 0x70 := by decide +kernel

theorem test_sbc :
    let t := after { code [0xDE, 0x0F] with a := 0x10, f := flagsOfByte 0x10 }
    t.a = 0x00 ∧ flagByte t = 0xE0 := by decide +kernel

theorem test_and : flagByte (after { code [0xE6, 0x00] with a := 0xFF, f := flagsOfByte 0x10 }) = 0xA0 := by
  decide +kernel

theorem test_xor : (after { code [0xEE, 0x0F] with a := 0xFF }).a = 0xF0 := by decide +kernel

theorem test_or : flagByte (after { code [0xB1] with a := 0, c := 0, f := flagsOfByte 0x70 }) = 0x80 := by
  decide +kernel

theorem test_cp :
    let t := after { code [0xFE, 0x40] with a := 0x3C }
    t.a = 0x3C ∧ flagByte t = 0x50 := by decide +kernel

theorem test_inc_keeps_carry :
    flagByte (after { code [0x3C] with a := 0xFF, f := flagsOfByte 0x10 }) = 0xB0 := by decide +kernel

theorem test_dec_memory :
    let t := after (withByte ((code [0x35]).setHL 0xC000) 0xC000 0x10)
    t.readByte 0xC000 = 0x0F ∧ flagByte t = 0x60 ∧ t.cycles = 12 := by decide +kernel

theorem test_daa_after_addition :
    let t := after { code [0x27] with a := 0x9A }
    t.a = 0x00 ∧ flagByte t = 0x90 := by decide +kernel

theorem test_daa_after_subtraction :
    let t := after { code [0x27] with a := 0x4B, f := flagsOfByte 0x60 }
    t.a = 0x45 ∧ flagByte t = 0x40 := by decide +kernel

theorem test_cpl : (after { code [0x2F] with a := 0x35 }).a = 0xCA := by decide +kernel

theorem test_scf : flagByte (after { code [0x37] with f := flagsOfByte 0xE0 }) = 0x90 := by decide +kernel

theorem test_ccf : flagByte (after { code [0x3F] with f := flagsOfByte 0xF0 }) = 0x80 := by decide +kernel

theorem test_add_HL :
    let t := after { ((code [0x09]).setHL 0x8A23).setBC 0x0605 with f := flagsOfByte 0x80 }
    t.hl = 0x9028 ∧ flagByte t = 0xA0 := by decide +kernel

theorem test_inc_pair_keeps_flags :
    let t := after { (code [0x03]).setBC 0xFFFF with f := flagsOfByte 0xF0 }
    t.bc = 0x0000 ∧ flagByte t = 0xF0 := by decide +kernel

theorem test_dec_pair : (after ((code [0x1B]).setDE 0x1000)).de = 0x0FFF := by decide +kernel

theorem test_add_SP :
    let t := after { code [0xE8, 0x80] with sp := 0x0100 }
    t.sp = 0x0080 ∧ flagByte t = 0x00 := by decide +kernel

theorem test_rlca_clears_Z : flagByte (after { code [0x07] with a := 0, f := flagsOfByte 0x90 }) = 0x00 := by
  decide +kernel

theorem test_rrca : (after { code [0x0F] with a := 0x3B }).a = 0x9D := by decide +kernel

theorem test_rla : (after { code [0x17] with a := 0x95, f := flagsOfByte 0x10 }).a = 0x2B := by decide +kernel

theorem test_rra : (after { code [0x1F] with a := 0x81 }).a = 0x40 := by decide +kernel

theorem test_rlc : (after { code [0xCB, 0x00] with b := 0x85 }).b = 0x0B := by decide +kernel

theorem test_rrc : (after { code [0xCB, 0x09] with c := 0x01 }).c = 0x80 := by decide +kernel

theorem test_rl : flagByte (after { code [0xCB, 0x15] with l := 0x80 }) = 0x90 := by decide +kernel

theorem test_rr : flagByte (after { code [0xCB, 0x1F] with a := 0x01 }) = 0x90 := by decide +kernel

theorem test_sla : (after (withByte ((code [0xCB, 0x26]).setHL 0xC000) 0xC000 0xFF)).readByte 0xC000 = 0xFE := by
  decide +kernel

theorem test_sra : (after { code [0xCB, 0x2F] with a := 0x8A }).a = 0xC5 := by decide +kernel

theorem test_swap : (after { code [0xCB, 0x37] with a := 0xF1 }).a = 0x1F := by decide +kernel

theorem test_srl : (after { code [0xCB, 0x3C] with h := 0xFF }).h = 0x7F := by decide +kernel

theorem test_bit :
    let t := after { withByte ((code [0xCB, 0x46]).setHL 0xC000) 0xC000 0xFE with f := flagsOfByte 0x40 }
    flagByte t = 0xA0 ∧ t.cycles = 12 := by decide +kernel

theorem test_res : (after { code [0xCB, 0xBF] with a := 0xFF }).a = 0x7F := by decide +kernel

theorem test_set : (after { code [0xCB, 0xFD] with l := 0x3B }).l = 0xBB := by decide +kernel

theorem test_jp_not_taken :
    let t := after { code [0xC2, 0x50, 0x01] with f := flagsOfByte 0x80 }
    t.pc = 0x0103 ∧ t.cycles = 12 := by decide +kernel

theorem test_jp_HL : (after ((code [0xE9]).setHL 0xC123)).pc = 0xC123 := by decide +kernel

theorem test_jr_backwards : (after (code [0x18, 0x80])).pc = 0x0082 := by decide +kernel

theorem test_jr_taken :
    let t := after { code [0x38, 0x10] with f := flagsOfByte 0x10 }
    t.pc = 0x0112 ∧ t.cycles = 12 := by decide +kernel

theorem test_call :
    let t := after (code [0xCD, 0x34, 0x12])
    t.pc = 0x1234 ∧ t.sp = 0xFFFC ∧ t.readByte 0xFFFD = 0x01 ∧ t.readByte 0xFFFC = 0x03 ∧ t.cycles = 24 := by
  decide +kernel

theorem test_ret_cc :
    let t := after { withByte (withByte (code [0xD0]) 0xC000 0x03) 0xC001 0x80 with sp := 0xC000 }
    t.pc = 0x8003 ∧ t.sp = 0xC002 ∧ t.cycles = 20 := by decide +kernel

theorem test_reti :
    let t := after { withByte (withByte (code [0xD9]) 0xC000 0x50) 0xC001 0x01 with sp := 0xC000 }
    t.pc = 0x0150 ∧ t.ime = true := by decide +kernel

theorem test_rst :
    let t := after (code [0xEF])
    t.pc = 0x0028 ∧ t.readByte 0xFFFD = 0x01 ∧ t.readByte 0xFFFC = 0x01 := by decide +kernel

theorem test_illegal_is_logged :
    let t := after { code [0xD3] with f := flagsOfByte 0x50 }
    t.illegalLog = [(0xD3, 0x0100)] ∧ t.pc = 0x0101 ∧ flagByte t = 0x50 := by decide +kernel

theorem test_halt_bug :
    let t := after { (code [0x76]).setIo 0x0F 0xE4 with ie := 0x04 }
    t.halted = false ∧ t.haltBug = true ∧ t.pc = 0x0101 := by decide +kernel

theorem test_halt_flag_not_enabled :
    let t := after { (code [0x76]).setIo 0x0F 0xE4 with ie := 0x1B }
    t.halted = true ∧ t.pc = 0x0100 := by decide +kernel

theorem test_di : (after { code [0xF3] with ime := true, imeDelay := 1 }).imeDelay = 0 := by decide +kernel

theorem test_ei : (after (code [0xFB])).imeDelay = 2 ∧ (after (code [0xFB])).ime = false := by decide +kernel

/-! One step of the machine, 95_test_vectors.md 2.8 to 2.12. -/

theorem test_halt_bug_repeats_the_opcode_byte :
    let t := stepped { code [0x76, 0x06, 0x04] with b := 0, pc := 0x0101, haltBug := true }
    t.b = 0x06 ∧ t.pc = 0x0102 := by decide +kernel

theorem test_lowest_interrupt_first :
    let t := stepped { (code [0x00]).setIo 0x0F 0xE5 with ime := true, ie := 0x1F }
    t.pc = 0x0040 ∧ t.sp = 0xFFFC ∧ t.iflags = 0xE4 ∧ t.ime = false ∧ t.clock = 24 := by decide +kernel

theorem test_timer_wakes_a_halted_processor :
    let t := stepped { (((code [0x76]).setIo 0x0F 0xE0).setIo 0x05 0xFF).setIo 0x07 0x05 with
      ie := 0x04, halted := true, timaAcc := 12 }
    t.pc = 0x0101 ∧ t.halted = false ∧ t.iflags = 0xE4 ∧ t.tima = 0 ∧ t.timaAcc = 0 := by decide +kernel

theorem test_timer_reload :
    let t := stepped { ((((code [0x00]).setIo 0x0F 0xE0).setIo 0x05 0xFF).setIo 0x07 0x05).setIo 0x06 0xF0 with
      timaAcc := 12 }
    t.tima = 0xF0 ∧ t.iflags = 0xE4 := by decide +kernel

theorem test_sequencer_enters_pixel_transfer :
    let t := stepped { code [0x18, 0xFE] with lineCycles := 72 }
    t.mode = .pixelTransfer ∧ t.lineCycles = 4 ∧ t.stat = 0x87 := by decide +kernel

theorem test_sequencer_enters_VBlank :
    let t := stepped { (((code [0x18, 0xFE]).setIo 0x44 143).setIo 0x41 0x80).setIo 0x0F 0xE0 with
      mode := .hBlank, lineCycles := 192 }
    t.ly = 144 ∧ t.stat = 0x81 ∧ t.iflags = 0xE1 ∧ t.framesReady.length = 1 := by decide +kernel

theorem test_tile_row :
    ([0, 1, 2, 3, 4, 5, 6, 7].map fun col => planePixel 0x3C 0x7E col) = [0, 2, 3, 3, 3, 3, 2, 0] ∧
    ([0, 1, 2, 3].map fun i => shadeOf 0xFC i) = [0, 3, 3, 3] := by decide +kernel

theorem test_joypad_latch :
    let t := stepped { (code [0x3E, 0x20]).setIo 0x0F 0xE0 with
      buttonInputs := [{ noButtons with left := true, start := true }] }
    t.p1 = 0xC5 ∧ t.iflags = 0xF0 ∧ t.buttonInputs = [] := by decide +kernel

theorem test_serial_hands_over :
    (stepped { (code [0xE0, 0x02]).setIo 0x01 0x50 with a := 0x81 }).serialTrace = [0x50] := by decide +kernel

theorem test_dma_copies : (withByte (withByte (code []) 0xC09F 0x77) 0xFF46 0xC0).readByte 0xFE9F = 0x77 := by
  decide +kernel

/-! A hypothesis of a statement is met, at the boundaries of its clauses. -/

theorem witness_DecodingAnEncodingGivesTheInstruction :
    WellFormed (.ldBCN16 0xFFFF) ∧ decode (encode (.ldBCN16 0xFFFF) ++ [0x76]) = .ok (.ldBCN16 0xFFFF, [0x76]) :=
  ⟨by decide, rfl⟩

theorem witness_EncodingADecodedInstructionGivesTheBytes : decode [0xCB, 0x37, 0x00] = .ok (.swapA, [0x00]) := rfl

theorem witness_StepRunsTheDecodedInstruction :
    (code [0x3E, 0x5A]).halted = false ∧
    decode [(code [0x3E, 0x5A]).readByte (code [0x3E, 0x5A]).pc,
      (code [0x3E, 0x5A]).readByte (code [0x3E, 0x5A]).pcAfterOpcode,
      (code [0x3E, 0x5A]).readByte ((code [0x3E, 0x5A]).pcAfterOpcode + 1)] = .ok (.ldAN8 0x5A, [0x00]) ∧
    (∃ t, exec (.ldAN8 0x5A) (takeInput (code [0x3E, 0x5A])) = .next t) ∧
    { code [] with halted := true }.halted = true := ⟨rfl, by rfl, ⟨_, rfl⟩, rfl⟩

/-- The catching up of StepRunsTheDecodedInstruction and the two cases of EveryStepCompletesAndCountsItsCycles: with an
enabled V-Blank request and `IME` the check takes 20 cycles, with `IME` clear or nothing enabled none. -/
theorem witness_catching_up :
    let s := { (code []).setIo 0x0F 0x01 with ie := 0x01, ime := true, cycles := 4 }
    let before (t : State) := advanceDevices t.cycles (imeTick t)
    (interruptCheck (before s)).2 = 20 ∧ (before s).ime = true ∧
    (before s).ie &&& (before s).readByte 0xFF0F &&& 0x1F ≠ 0 ∧ (catchUp s).clock = s.clock + 4 + 20 ∧
    (interruptCheck (before { s with ime := false })).2 = 0 ∧ (before { s with ime := false }).ime = false ∧
    (before { s with ie := 0 }).ie &&& (before { s with ie := 0 }).readByte 0xFF0F &&& 0x1F = 0 ∧
    (catchUp { s with ie := 0 }).clock = s.clock + 4 ∧
    (imeTick { s with imeDelay := 2 }).imeDelay = 1 ∧ (imeTick { s with ime := false, imeDelay := 1 }).ime = true := by
  decide +kernel

/-- R307, R305: the timer and the picture unit see the cycles of the instruction and those of a dispatch. -/
theorem test_devices_see_the_cycles :
    let s := { (code []).setIo 0x0F 0x01 with ie := 0x01, ime := true, cycles := 4, divAcc := 234, lineCycles := 10 }
    (catchUp s).div = 0xAC ∧ (catchUp s).divAcc = 2 ∧ (catchUp s).lineCycles = 34 ∧
    (catchUp { s with ime := false }).divAcc = 238 ∧ (catchUp { s with ime := false }).lineCycles = 14 := by
  decide +kernel

theorem witness_PushThenPopGivesTheWordBack (p q : StackReg) :
    let s := { code [] with sp := 0xC002 }
    plainStorage s (s.sp - 1) ∧ plainStorage s (s.sp - 2) ∧
      ∃ t u, exec (.push p) s = .next t ∧ exec (.pop q) t = .next u :=
  ⟨by right; left; decide, by right; left; decide, by cases p <;> cases q <;> exact ⟨_, _, rfl, rfl⟩⟩

theorem witness_DaaCplScfCcf : (code []).f.n = false ∧ { code [] with f := flagsOfByte 0x40 }.f.n = true := by decide

theorem witness_DaaAdjustsDecimalArithmetic :
    let s := { code [] with a := bcd 99, f := flagsOfByte 0x10 }
    s.a = bcd 99 ∧ (∃ t u, exec (.aluImm .add (bcd 99)) s = .next t ∧ exec .daa t = .next u) ∧
    (∃ t u, exec (.aluImm .adc (bcd 99)) s = .next t ∧ exec .daa t = .next u) ∧
    (∃ t u, exec (.aluImm .sub (bcd 99)) s = .next t ∧ exec .daa t = .next u) ∧
    ∃ t u, exec (.aluImm .sbc (bcd 99)) s = .next t ∧ exec .daa t = .next u :=
  ⟨rfl, ⟨_, _, rfl, rfl⟩, ⟨_, _, rfl, rfl⟩, ⟨_, _, rfl, rfl⟩, ⟨_, _, rfl, rfl⟩⟩

theorem witness_ProcessorControl :
    let s := { (code [0x76]).setIo 0x0F 0xE4 with ie := 0x04 }
    (s.ime = false ∧ s.ie &&& s.readByte 0xFF0F &&& 0x1F ≠ 0) ∧ { s with ime := true }.ime = true ∧
      (code [0x76]).ie &&& (code [0x76]).readByte 0xFF0F &&& 0x1F = 0 := by decide +kernel

/-- For the frames and the reported cycles: a store through `HL`, a taken CALL, and an instruction that stores nothing. -/
theorem witness_frames :
    WellFormed .ldIndHLB ∧ (∃ t, exec .ldIndHLB ((code []).setHL 0xC000) = .next t) ∧
    storedTo .ldIndHLB ((code []).setHL 0xC000) = [0xC000] ∧ ¬ storeReaches .noBanking 0xC000 0xC001 ∧
    storedTo (.callZA16 0x1234) { code [] with sp := 0xC002, f := flagsOfByte 0x80 } = [0xC001, 0xC000] ∧
    storedTo (.callZA16 0x1234) (code []) = [] ∧
    Reg8.b ∉ regsWritten (.ldAN8 0) ∧ writesSp (.ldAN8 0) (code []).f = false ∧
    transfers (entryOf (.callZA16 0)).op (code []).f = false ∧ (entryOf .swapA).second = true :=
  ⟨by decide, ⟨_, rfl⟩, by decide +kernel, by simp [storeReaches, homeAddress], by decide +kernel, by decide +kernel,
    by decide +kernel, by decide +kernel, by decide +kernel, by decide +kernel⟩

theorem witness_DeviceStateChangesOnlyByItsStores :
    WellFormed .nop ∧ (∃ t, exec .nop (code []) = .next t) ∧ storedTo .nop (code []) = [] ∧
      storedTo .ldIndHLA ((code []).setHL 0x8000) = [0x8000] ∧ ∀ x ∈ Instr.illegals, Instr.nop ≠ x.2 :=
  ⟨by decide, ⟨_, rfl⟩, by decide +kernel, by decide +kernel, by decide +kernel⟩

theorem witness_InterruptCheckDispatchesTheLowest :
    let quiet := code []
    let first := { (code []).setIo 0x0F 0xE1 with ie := 0x1F, ime := true }
    let last := { (code []).setIo 0x0F 0xF0 with ie := 0x1F, ime := true, halted := true }
    quiet.ie &&& quiet.readByte 0xFF0F &&& 0x1F = 0 ∧
    ({ first with ime := false }.ie &&& first.readByte 0xFF0F &&& 0x1F ≠ 0) ∧
    (first.ie &&& first.readByte 0xFF0F).getLsbD 0 = true ∧ (last.ie &&& last.readByte 0xFF0F).getLsbD 4 = true ∧
    (∀ j < 4, (last.ie &&& last.readByte 0xFF0F).getLsbD j = false) ∧
    (interruptCheck first).1.pc = 0x0040 ∧ (interruptCheck last).1.pc = 0x0060 ∧
    (interruptCheck last).1.readByte 0xFFFC = 0x01 := by decide +kernel

theorem witness_NoEnabledRequestWaitsWithImeSet :
    let s := { (code [0x00]).setIo 0x0F 0xE4 with ie := 0x04 }
    (∃ t, step s = .next t) ∧ (stepped s).ie &&& (stepped s).readByte 0xFF0F &&& 0x1F ≠ 0 :=
  ⟨exists_of_isNext (by decide +kernel), by decide +kernel⟩

theorem witness_EiTakesEffectOneInstructionLate :
    (fetchInstr (code [0xFB]) = .ei ∧ (∃ t, step (code [0xFB]) = .next t) ∧ (stepped (code [0xFB])).imeDelay = 1) ∧
    (fetchInstr (code [0x00]) ≠ .di ∧ (stepped { code [0x00] with imeDelay := 1 }).ime = true) ∧
    fetchInstr (code [0xF3]) = .di ∧ (stepped { code [0xF3] with imeDelay := 1 }).ime = false :=
  ⟨⟨by decide +kernel, exists_of_isNext (by decide +kernel), by decide +kernel⟩, ⟨by decide +kernel, by decide +kernel⟩,
    by decide +kernel, by decide +kernel⟩

theorem witness_DeadHaltNeverWakes :
    let s := { code [] with halted := true, ie := 0xE0 }
    s.halted = true ∧ s.ie &&& 0x1F = 0 ∧ s.imeDelay ≠ 1 ∧ { s with imeDelay := 1 }.imeDelay = 1 ∧
      (∃ t, step s = .next t) ∧ ∃ t, step { s with imeDelay := 1 } = .next t :=
  ⟨rfl, by decide, by decide, rfl, exists_of_isNext (by decide +kernel), exists_of_isNext (by decide +kernel)⟩

/-- For CartridgeImageIsNeverWritten and the second clause of JoypadLatchShowsHeldButtons. -/
theorem witness_step_answers_next : ∃ t, step (code [0x00]) = .next t := exists_of_isNext (by decide +kernel)

theorem witness_DividerCountsEveryCycle :
    let s := { (code []).setIo 0x04 0xFF with divAcc := 255 }
    s.divAcc < 256 ∧ dividerCounter s = 65535 ∧ dividerCounter (timerStep 4 s) = 3 := by decide +kernel

theorem witness_TimerCountsPeriods :
    let s := { ((code []).setIo 0x05 0xFF).setIo 0x07 0x05 with timaAcc := 12 }
    s.tac.getLsbD 2 = true ∧ s.tima.toNat + (s.timaAcc + 3) / 16 < 256 ∧ 256 ≤ s.tima.toNat + (s.timaAcc + 4) / 16 ∧
      (s.tac.toNat % 4 : Nat) = 1 ∧ (code []).tac.getLsbD 2 = false := by decide +kernel

/-- R346, R345: a change to the period 16 with 1023 cycles counted gives 63 increments in one call; with `TMA` = 0xFF
every one from the first overflow on overflows. -/
theorem test_many_increments_in_one_call :
    let s := { (((code []).setIo 0x05 0xF0).setIo 0x07 0x05).setIo 0x06 0xF0 with timaAcc := 1023 }
    (timerStep 0 s).tima = 0xFF ∧ (timerStep 1 s).tima = 0xF0 ∧ (timerStep 1 (s.setIo 0x06 0xFF)).tima = 0xFF ∧
      (timerStep 0 s).timaAcc = 15 := by decide +kernel

theorem witness_SequencerFollowsTheModes :
    let s := { code [] with lineCycles := 79 }
    s.lcdc.getLsbD 7 = true ∧ s.mode = .oamScan ∧ s.lineCycles + 0 < 80 ∧ 80 ≤ s.lineCycles + 1 ∧
    s.stat &&& 0x03 = s.mode.bits := by decide +kernel

/-- A state of the sequencer: its mode, the cycles spent in it and the line, STAT mirroring the mode. -/
def sequencerAt (mode : PpuMode) (spent : Nat) (line : Byte) : State :=
  { ((code []).setIo 0x41 (0xF8 ||| mode.bits)).setIo 0x44 line with mode := mode, lineCycles := spent }

/-- SequencerFollowsTheModes in the other modes: one cycle below the threshold and at it, the last drawn line and the line
before it, line 152 and line 153. -/
theorem witness_SequencerFollowsTheModes_modes :
    (∀ p ∈ [(PpuMode.pixelTransfer, 172, (0 : Byte)), (.hBlank, 204, 142), (.hBlank, 204, 143), (.vBlank, 456, 152),
        (.vBlank, 456, 153)],
      let s := sequencerAt p.1 (p.2.1 - 1) p.2.2
      s.lcdc.getLsbD 7 = true ∧ s.mode = p.1 ∧ s.lineCycles + 0 < p.2.1 ∧ p.2.1 ≤ s.lineCycles + 1 ∧
        s.stat &&& 0x03 = s.mode.bits ∧ s.ly = p.2.2) := by decide +kernel

theorem witness_DrawnLineTakes456Cycles :
    (code []).lcdc.getLsbD 7 = true ∧ (code []).mode = .oamScan ∧ (code []).lineCycles = 0 ∧
      ((code []).setIo 0x44 143).ly.toNat ≤ 143 := by decide +kernel

theorem witness_VBlankEntryRaisesAndHandsOver :
    let s := { (code []).setIo 0x44 143 with mode := .hBlank, lineCycles := 200 }
    s.lcdc.getLsbD 7 = true ∧ s.mode = .hBlank ∧ s.ly = 143 ∧ 204 ≤ s.lineCycles + 4 := by decide +kernel

theorem witness_StatRequestsOnModeEntry :
    let s := { (code []).setIo 0x44 142 with mode := .hBlank, lineCycles := 200 }
    s.lcdc.getLsbD 7 = true ∧ s.mode.duration ≤ s.lineCycles + 4 ∧ ¬ (s.mode = .hBlank ∧ s.ly = 143) := by
  decide +kernel

/-- StatRequestsOnModeEntry in every mode: a request of each kind, and none on entering PixelTransfer. -/
theorem witness_StatRequestsOnModeEntry_modes :
    (∀ p ∈ [(PpuMode.oamScan, 80, (0 : Byte), false), (.pixelTransfer, 172, 0, true), (.hBlank, 204, 142, true),
        (.vBlank, 456, 150, false), (.vBlank, 456, 153, true)],
      let s := (sequencerAt p.1 (p.2.1 - 4) p.2.2.1).setIo 0x0F 0
      s.lcdc.getLsbD 7 = true ∧ s.mode.duration ≤ s.lineCycles + 4 ∧ ¬ (s.mode = .hBlank ∧ s.ly = 143) ∧
        (ppuStep 4 s).iflags.getLsbD 1 = p.2.2.2) := by decide +kernel

theorem witness_LcdOffFreezesTheSequencer : ((code []).setIo 0x40 0x7F).lcdc.getLsbD 7 = false := by decide +kernel

theorem witness_PictureUnitIsInvisibleElsewhere :
    (0xFF45 : Word) ≠ 0xFF44 ∧ (0xFF45 : Word) ≠ 0xFF41 ∧ (0xFF45 : Word) ≠ 0xFF0F := by decide

theorem witness_EnteringHBlankDrawsTheLine :
    let s := { (code []).setIo 0x44 143 with mode := .pixelTransfer, lineCycles := 168 }
    s.lcdc.getLsbD 7 = true ∧ s.mode = .pixelTransfer ∧ 172 ≤ s.lineCycles + 4 ∧ s.frameBuffer.length = 144 ∧
      s.ly.toNat ≤ 143 := by decide +kernel

/-- The picture of R391 and R392 with all registers at reset: tile 0 at 0x8000, no window. -/
theorem witness_EnteringHBlankDrawsTheLine_background :
    let s := code []
    143 ≤ 143 ∧ 159 < 160 ∧ s.lcdc.getLsbD 0 = true ∧
    (false = true ↔ s.lcdc.getLsbD 5 = true ∧ s.wy.toNat ≤ 143 ∧ s.wx.toNat ≤ 159 + 7) ∧
    143 = (143 + s.scy.toNat) % 256 ∧ 159 = (159 + s.scx.toNat) % 256 ∧ s.lcdc.getLsbD 3 = false ∧
    (0x00 : Byte) = s.readByte (BitVec.ofNat 16 (0x9800 + 32 * (143 / 8) + 159 / 8)) ∧
    ((0x8000 : Nat) : Int) = (if s.lcdc.getLsbD 4 then 0x8000 + 16 * ((0x00 : Byte).toNat : Int) else 0) ∧
    0 = tileColour s 0x8000 (143 % 8) (159 % 8) := by decide +kernel

/-- A window at the top left pixel, its map at 0x9C00, signed tile numbers: tile 0xFF at 0x8FF0 of colour 3. -/
theorem witness_EnteringHBlankDrawsTheLine_window :
    let s := ((((((code []).setIo 0x40 0xE1).setIo 0x4B 7).store .vram 0x1C00 0xFF).store .vram 0xFF0 0x80).store
      .vram 0xFF1 0x80)
    s.lcdc.getLsbD 0 = true ∧ (true = true ↔ s.lcdc.getLsbD 5 = true ∧ s.wy.toNat ≤ 0 ∧ s.wx.toNat ≤ 0 + 7) ∧
    0 = 0 - s.wy.toNat ∧ 0 = 0 + 7 - s.wx.toNat ∧ s.lcdc.getLsbD 6 = true ∧
    (0xFF : Byte) = s.readByte (BitVec.ofNat 16 (0x9C00 + 32 * (0 / 8) + 0 / 8)) ∧ s.lcdc.getLsbD 4 = false ∧
    ((0x8FF0 : Nat) : Int) = 0x9000 + 16 * (0xFF : Byte).toInt ∧ 3 = tileColour s 0x8FF0 0 0 ∧
    bgShade s 0 0 = 3 := by decide +kernel

/-- A state in which sprite 39 alone shows colour 1 of tile 0 at line 0, column 0. -/
def oneSprite : State :=
  ((((code []).setIo 0x40 0x93).store .oam 156 16).store .oam 157 8).store .vram 0 0x80

theorem witness_FirstOpaqueSpriteDecidesThePixel :
    oneSprite.lcdc.getLsbD 1 = true ∧ spriteCovers oneSprite 0 0 39 = true ∧ spriteIndex oneSprite 0 0 39 ≠ 0 ∧
    (∀ m ∈ List.range 39, spriteCovers oneSprite 0 0 m = false) ∧ (code []).lcdc.getLsbD 1 = false ∧
    (∀ n ∈ List.range 40, spriteCovers oneSprite 0 8 n = false) ∧
    ((code []).setIo 0x40 0x90).lcdc.getLsbD 0 = false := by decide +kernel

/-- The last sprite of the table at the top left pixel, of 8 lines. -/
theorem witness_FirstOpaqueSpriteDecidesThePixel_entry :
    39 < 40 ∧ 8 = (if oneSprite.lcdc.getLsbD 2 then 16 else 8) ∧
    (16 : Byte) = oneSprite.readByte (BitVec.ofNat 16 (0xFE00 + 4 * 39)) ∧
    (8 : Byte) = oneSprite.readByte (BitVec.ofNat 16 (0xFE00 + 4 * 39 + 1)) ∧
    (0 : Byte) = oneSprite.readByte (BitVec.ofNat 16 (0xFE00 + 4 * 39 + 2)) ∧
    (0 : Byte) = oneSprite.readByte (BitVec.ofNat 16 (0xFE00 + 4 * 39 + 3)) ∧
    spriteCovers oneSprite 0 0 39 = true ∧ ((0 : Nat) : Int) - ((16 : Byte).toNat - 16) = (0 : Nat) ∧
    ((0 : Nat) : Int) - ((8 : Byte).toNat - 8) = (0 : Nat) := by decide +kernel

theorem witness_SerialPortHandsOverOnTheStartPattern :
    (0xFF01 : Word) ≠ 0xFF02 ∧ ((code []).writeByte 0xFF02 0x81).serialTrace = [0x00] ∧
      ((code []).writeByte 0xFF02 0x80).serialTrace = [] := by decide +kernel

theorem witness_EchoAndUnusableRanges :
    (0xE000 ≤ (0xE000 : Word).toNat ∧ (0xFDFF : Word).toNat < 0xFE00) ∧ 0xFEA0 ≤ (0xFEA0 : Word).toNat ∧
    (0xFEFF : Word).toNat < 0xFF00 := by decide

theorem test_edges_of_echo_and_unusable_range :
    (withByte (code []) 0xFDFF 0x5A).readByte 0xDDFF = 0x5A ∧ (code []).readByte 0xFEA0 = 0xFF ∧
    (code []).readByte 0xFEFF = 0xFF := by decide +kernel

/-- A machine with an MBC5 controller, 8 KiB of external RAM, enabled. -/
def withRam : State :=
  { code [] with
    bank := .mbc5 { ramEnable := true, romBank := 1, ramBank := 0 }
    mem := blankMemory 0x8000 0x2000 }

theorem witness_StoresAreReadBack :
    plainStorage withRam 0x8000 ∧ plainStorage withRam 0x9FFF ∧ plainStorage withRam 0xC000 ∧
    plainStorage withRam 0xFE9F ∧ plainStorage withRam 0xFF80 ∧ plainStorage withRam 0xFFFE ∧
    plainStorage withRam 0xBFFF :=
  ⟨by left; decide, by left; decide, by right; left; decide, by right; left; decide, by right; right; left; decide,
    by right; right; left; decide,
    by right; right; right; exact ⟨by decide, by decide, fun m h => by simp [withRam] at h, 0x1FFF, rfl, by decide⟩⟩

/-- The edges of the I/O clauses of StoresAreReadBack: plain registers, and the first and last sound register. -/
theorem witness_StoresAreReadBack_io :
    0x7F < 0x80 ∧ 0x01 ∉ [0x00, 0x02, 0x04, 0x41, 0x44, 0x46] ∧ 0x7F ∉ [0x00, 0x02, 0x04, 0x41, 0x44, 0x46] ∧
    (0x0F < 0x10 ∨ 0x40 ≤ 0x0F) ∧ (0x40 < 0x10 ∨ 0x40 ≤ 0x40) ∧ (0xFF02 : Word).toNat ≠ 0xFF00 + 0x01 ∧
    (0x10 ≤ 0x10 ∧ 0x3F < 0x40) := by decide

theorem test_io_write_masks :
    (withByte (code []) 0xFF00 0x1A).readByte 0xFF00 = 0x1F ∧ (withByte (code []) 0xFF41 0x7D).readByte 0xFF41 = 0xFE ∧
    (withByte (code []) 0xFF04 0x55).readByte 0xFF04 = 0x00 ∧ (withByte (code []) 0xFF44 0x55).readByte 0xFF44 = 0x00 := by
  decide +kernel

/-- A state whose first pulse channel has its DAC on and its length counter at 0, does not repeat, and is routed to both
sides at full master volume. -/
def silencedPulse : State :=
  { State.reset with
    apu := { silentApu with
      pulse1 := { silentChannel with dacOn := true, left := true, right := true, envelopeVolume := 15 }
      volumeLeft := 7, volumeRight := 7 } }

/-- R441: it is silent at the next sample, 8 sequencer steps later (after every kind of clock), whatever its envelope
and sweep have become. -/
theorem test_length_zero_silences : voiceSample (apuStep 65536 silencedPulse) .pulse1 = 0 :=
  apuStep_stays_silent 65536 rfl rfl

/-- R441: the seed of the noise table stays, whatever a sound register is written. -/
theorem test_noise_seed_stays (s : State) (v : Byte) : (s.writeByte 0xFF22 v).apu.noiseSeed = s.apu.noiseSeed := rfl

/-- R93: code 8 declares 8 MiB. -/
theorem test_declared_rom_size : declaredRomSize 0 = 32768 ∧ declaredRomSize 8 = 8388608 := by decide

theorem witness_DmaCopiesThePage : 159 < 160 ∧ (withByte (code []) 0xFF46 0xC0).readByte 0xFF46 = 0xC0 := by
  decide +kernel

/-- A machine with a controller and `size` bytes of external RAM, over an image of eight banks whose first bytes are
their numbers. -/
def cartridge (bank : BankState) (size : Nat) : State :=
  { code [] with
    bank := bank
    mem := { blankMemory 0x20000 size with
      rom := [1, 2, 3, 4, 5, 6, 7].map fun k => (k * 0x4000, BitVec.ofNat 8 k) } }

theorem witness_NoBankingMbc1AndMbc2_mbc1 :
    let s := cartridge (.mbc1 { ramEnable := true, bank1 := 5, bank2 := 0, bankMode := false }) 0x8000
    s.readByte 0x4000 = 5 ∧ (s.writeByte 0x1FFF 0x0B).bank = .mbc1 { ramEnable := false, bank1 := 5, bank2 := 0, bankMode := false } ∧
    (s.writeByte 0x2000 0x20).readByte 0x4000 = 1 ∧ (s.writeByte 0x3FFF 0x07).readByte 0x4000 = 7 ∧
    ((s.writeByte 0x4000 0x03).writeByte 0x7FFF 0x01).bank = .mbc1 { ramEnable := true, bank1 := 5, bank2 := 3, bankMode := true } ∧
    (s.writeByte 0x5FFF 0x03).readByte 0x4000 = 0xFF ∧ (s.writeByte 0xBFFF 0x66).readByte 0xBFFF = 0x66 ∧
    ((s.writeByte 0xA000 0x55).writeByte 0x0000 0x00).readByte 0xA000 = 0xFF := by decide +kernel

theorem witness_NoBankingMbc1AndMbc2_mbc2_and_none :
    let s := cartridge (.mbc2 { ramEnable := true, romBank := 5 }) 512
    s.readByte 0x3FFF = 0 ∧ s.readByte 0x4000 = 5 ∧ (s.writeByte 0x3EFF 0x00).readByte 0xA000 = 0xFF ∧
    (s.writeByte 0x0100 0x00).readByte 0x4000 = 1 ∧ (s.writeByte 0x3FFF 0x06).readByte 0x4000 = 6 ∧
    (s.writeByte 0x7FFF 0x06).readByte 0x4000 = 5 ∧ (s.writeByte 0xA000 0xAB).readByte 0xA200 = 0xFB ∧
    (s.writeByte 0xBFFF 0xAB).readByte 0xA1FF = 0xFB ∧
    ((code [0x12]).writeByte 0x0100 0x55).readByte 0x0100 = 0x12 ∧ ((code []).writeByte 0xBFFF 0x55).readByte 0xBFFF = 0xFF := by
  decide +kernel

theorem witness_Mbc3AndMbc5_mbc3 :
    let s := cartridge (.mbc3 { ramEnable := true, romBank := 5, ramBank := 3 }) 0x8000
    s.readByte 0x4000 = 5 ∧ (s.writeByte 0x1FFF 0x00).readByte 0xA000 = 0xFF ∧
    (s.writeByte 0x2000 0x80).readByte 0x4000 = 1 ∧ (s.writeByte 0x3FFF 0x06).readByte 0x4000 = 6 ∧
    (s.writeByte 0xA000 0x77).readByte 0xA000 = 0x77 ∧ ((s.writeByte 0xA000 0x77).writeByte 0x5FFF 0x04).readByte 0xA000 = 0xFF ∧
    (s.writeByte 0x6000 0x01).bank = s.bank ∧ (s.writeByte 0x7FFF 0x01).bank = s.bank := by decide +kernel

theorem witness_Mbc3AndMbc5_mbc5 :
    let s := cartridge (.mbc5 { ramEnable := true, romBank := 0x105, ramBank := 0 }) 0x20000
    s.readByte 0x4000 = 0xFF ∧ (s.writeByte 0x3000 0x02).readByte 0x4000 = 5 ∧
    (s.writeByte 0x2FFF 0x00).bank = .mbc5 { ramEnable := true, romBank := 0x100, ramBank := 0 } ∧
    ((s.writeByte 0x3FFF 0x00).writeByte 0x2000 0x00).readByte 0x4000 = 0 ∧
    ((s.writeByte 0x5FFF 0x0F).writeByte 0xBFFF 0x44).readByte 0xBFFF = 0x44 ∧
    (s.writeByte 0x1FFF 0x00).readByte 0xA000 = 0xFF ∧ (s.writeByte 0x6000 0x01).bank = s.bank := by decide +kernel

/-- For ResetValues, LoadingFailsExactlyAsSaid and ResetMeetsTheInvariant: the shortest image loads. -/
theorem witness_loading : ∃ s, loadCartridge (List.replicate 0x150 0) = .next s := exists_of_isNext (by decide +kernel)

/-- The two ways a load fails, and the edge of the shortest image. -/
theorem witness_LoadingFailsExactlyAsSaid :
    (List.replicate 0x14F (0 : Byte)).length < 0x150 ∧
    isNext (loadCartridge (List.replicate 0x14F 0)) = false ∧
    (List.replicate 0x147 (0 : Byte) ++ [0x04] ++ List.replicate 8 0).length = 0x150 ∧
    isNext (loadCartridge (List.replicate 0x147 0 ++ [0x04] ++ List.replicate 8 0)) = false := by
  decide +kernel

/-- R93, R460: MBC1 with 8 KiB of RAM and MBC2 are machines; a size code just outside each table is none, though it loads. -/
theorem witness_LoadingFailsExactlyAsSaid_machineOf :
    let image (kind rom ram : Byte) : List Byte := List.replicate 0x147 0 ++ [kind, rom, ram] ++ List.replicate 6 0
    (machineOf (image 0x03 0x08 0x02)).map (fun s => s.mem.extRamSize) = some 8192 ∧
    (machineOf (image 0x06 0x00 0x05)).map (fun s => s.mem.extRamSize) = some 512 ∧
    (machineOf (image 0x03 0x09 0x02)).isNone = true ∧ (machineOf (image 0x03 0x08 0x06)).isNone = true ∧
    isNext (loadCartridge (image 0x03 0x09 0x02)) = true := by decide +kernel

/-- R286, R306, R311: EI with `IME` set, in whose own step an interrupt is dispatched, sets `IME` again after the handler's
first instruction (log 19). -/
theorem test_ei_with_ime_set_and_a_dispatch :
    let s := { (code [0xFB]).setIo 0x0F 0x01 with ie := 0x01, ime := true }
    (stepped s).pc = 0x0040 ∧ (stepped s).ime = false ∧ (stepped s).imeDelay = 1 ∧
    (stepped (stepped s)).ime = true := by decide +kernel

theorem test_reset_meets_the_invariant : Inv State.reset where
  memory := by decide +kernel
  statMode := by decide +kernel
  statTop := by decide +kernel
  scanline := by decide +kernel
  drawnLine := fun _ => by decide +kernel
  divider := by decide
  timer := by decide
  notOverdue := by decide
  frameLines := by decide +kernel
  framePixels := fun line h => by rw [List.eq_of_mem_replicate h]; decide +kernel
  haltBug := fun _ => rfl

theorem witness_EveryStepKeepsTheInvariant : Inv State.reset ∧ ∃ t, step State.reset = .next t :=
  ⟨test_reset_meets_the_invariant, exists_of_isNext (by decide +kernel)⟩

end Sys2Proof.Tests
end

section
/-! PROOFS. The 511 well-formed instructions fall into the families that the spec's rules speak of. A `Form` names a family
and its operand fields; `exec_instr` gives the meaning of a form as one effect on the fetched state, `entryOf_instr` its entry
in the opcode tables, and `exists_form` says that every well-formed instruction is of some form. So a statement over all
instructions is a statement over forms. -/

namespace Sys2Proof.Machine

/-- Where `LD A,(..)` and `LD (..),A` find their byte, apart from the forms that move `HL` (R144 to R154). -/
inductive AddrForm
  | bc | de | highC
  | high (n : Byte)
  | direct (addr : Word)

/-- The families of instructions by their operand fields (R123 to R129); `up` of the two moves of `HL` is true for `HL+`. -/
inductive Form
  | nop | stop | halt | di | ei | reti
  | illegal (k : Fin 11)
  | daa | cpl | scf | ccf
  | rotateA (y : Fin 4)
  | alu (op : AluOp) (o : Operand8)
  | aluImm (op : AluOp) (n : Byte)
  | inc (o : Operand8)
  | dec (o : Operand8)
  | rotate (op : RotOp) (o : Operand8)
  | testBit (b : Index8) (o : Operand8)
  | resetBit (b : Index8) (o : Operand8)
  | setBit (b : Index8) (o : Operand8)
  | load (dst src : Reg8)
  | loadIndHL (dst : Reg8)
  | storeIndHL (src : Reg8)
  | loadImm (dst : Reg8) (n : Byte)
  | storeImm (n : Byte)
  | loadA (m : AddrForm)
  | storeA (m : AddrForm)
  | loadAMoveHL (up : Bool)
  | storeAMoveHL (up : Bool)
  | loadImm16 (p : Reg16) (n : Word)
  | storeSP (addr : Word)
  | push (p : StackReg)
  | pop (p : StackReg)
  | loadSPHL
  | loadHLSP (e : Byte)
  | addHL (p : Reg16)
  | incReg16 (p : Reg16)
  | decReg16 (p : Reg16)
  | addSP (e : Byte)
  | jump (addr : Word)
  | jumpIf (cc : Cond) (addr : Word)
  | jumpRel (e : Byte)
  | jumpRelIf (cc : Cond) (e : Byte)
  | jumpHL
  | call (addr : Word)
  | callIf (cc : Cond) (addr : Word)
  | ret
  | retIf (cc : Cond)
  | restart (b : Index8)

/-! The address forms. -/

/-- The address, in a state whose registers are those before the instruction. -/
def AddrForm.addr (t : State) : AddrForm → Word
  | .bc => t.bc
  | .de => t.de
  | .highC => highPage t.c
  | .high n => highPage n
  | .direct addr => addr

/-- The operand bytes that hold the address. -/
def AddrForm.operands : AddrForm → List Byte
  | .bc | .de | .highC => []
  | .high n => [n]
  | .direct addr => [lowByte addr, highByte addr]

/-- The cycles of a load or store of `A` (R144 to R154). -/
def AddrForm.cycles : AddrForm → Nat
  | .bc | .de | .highC => 8
  | .high _ => 12
  | .direct _ => 16

/-! The forms as instructions and as opcode bytes. -/

/-- The instruction of a form. -/
def Form.instr : Form → Instr
  | .nop => .nop
  | .stop => .stop
  | .halt => .halt
  | .di => .di
  | .ei => .ei
  | .reti => .reti
  | .illegal k => (Instr.illegals.get k).2
  | .daa => .daa
  | .cpl => .cpl
  | .scf => .scf
  | .ccf => .ccf
  | .rotateA 0 => .rlca
  | .rotateA 1 => .rrca
  | .rotateA 2 => .rla
  | .rotateA 3 => .rra
  | .alu op o => .alu op o
  | .aluImm op n => .aluImm op n
  | .inc o => .inc o
  | .dec o => .dec o
  | .rotate op o => .rotate op o
  | .testBit b o => .testBit b o
  | .resetBit b o => .resetBit b o
  | .setBit b o => .setBit b o
  | .load dst src => .load dst src
  | .loadIndHL dst => .loadIndHL dst
  | .storeIndHL src => .storeIndHL src
  | .loadImm dst n => .loadImm dst n
  | .storeImm n => .ldIndHLN8 n
  | .loadA .bc => .ldAIndBC
  | .loadA .de => .ldAIndDE
  | .loadA .highC => .ldAIndC
  | .loadA (.high n) => .ldhAIndA8 n
  | .loadA (.direct addr) => .ldAIndA16 addr
  | .storeA .bc => .ldIndBCA
  | .storeA .de => .ldIndDEA
  | .storeA .highC => .ldIndCA
  | .storeA (.high n) => .ldhIndA8A n
  | .storeA (.direct addr) => .ldIndA16A addr
  | .loadAMoveHL true => .ldAIndHLInc
  | .loadAMoveHL false => .ldAIndHLDec
  | .storeAMoveHL true => .ldIndHLIncA
  | .storeAMoveHL false => .ldIndHLDecA
  | .loadImm16 p n => .loadImm16 p n
  | .storeSP addr => .ldIndA16SP addr
  | .push p => .push p
  | .pop p => .pop p
  | .loadSPHL => .ldSPHL
  | .loadHLSP e => .ldHLSPE8 e
  | .addHL p => .addHL p
  | .incReg16 p => .incReg16 p
  | .decReg16 p => .decReg16 p
  | .addSP e => .addSPE8 e
  | .jump addr => .jpA16 addr
  | .jumpIf cc addr => .jumpIf cc addr
  | .jumpRel e => .jrE8 e
  | .jumpRelIf cc e => .jumpRelIf cc e
  | .jumpHL => .jpHL
  | .call addr => .callA16 addr
  | .callIf cc addr => .callIf cc addr
  | .ret => .ret
  | .retIf cc => .retIf cc
  | .restart b => .restart b

/-- The opcode byte of a form in its table, put together from its fields (R123 to R129). -/
def Form.op : Form → Byte
  | .nop => 0x00
  | .stop => 0x10
  | .halt => 0x76
  | .di => 0xF3
  | .ei => 0xFB
  | .reti => 0xD9
  | .illegal k => (Instr.illegals.get k).1
  | .daa => 0x27
  | .cpl => 0x2F
  | .scf => 0x37
  | .ccf => 0x3F
  | .rotateA y => opcodeByte 0 y 7
  | .alu op o => opcodeByte 2 (aluCode op) (operandCode o)
  | .aluImm op _ => opcodeByte 3 (aluCode op) 6
  | .inc o => opcodeByte 0 (operandCode o) 4
  | .dec o => opcodeByte 0 (operandCode o) 5
  | .rotate op o => opcodeByte 0 (rotCode op) (operandCode o)
  | .testBit b o => opcodeByte 1 b.toNat (operandCode o)
  | .resetBit b o => opcodeByte 2 b.toNat (operandCode o)
  | .setBit b o => opcodeByte 3 b.toNat (operandCode o)
  | .load dst src => opcodeByte 1 (regCode dst) (regCode src)
  | .loadIndHL dst => opcodeByte 1 (regCode dst) 6
  | .storeIndHL src => opcodeByte 1 6 (regCode src)
  | .loadImm dst _ => opcodeByte 0 (regCode dst) 6
  | .storeImm _ => 0x36
  | .loadA .bc => 0x0A
  | .loadA .de => 0x1A
  | .loadA .highC => 0xF2
  | .loadA (.high _) => 0xF0
  | .loadA (.direct _) => 0xFA
  | .storeA .bc => 0x02
  | .storeA .de => 0x12
  | .storeA .highC => 0xE2
  | .storeA (.high _) => 0xE0
  | .storeA (.direct _) => 0xEA
  | .loadAMoveHL up => if up then 0x2A else 0x3A
  | .storeAMoveHL up => if up then 0x22 else 0x32
  | .loadImm16 p _ => opcodeByte 0 (2 * pairCode p) 1
  | .storeSP _ => 0x08
  | .push p => opcodeByte 3 (2 * stackCode p) 5
  | .pop p => opcodeByte 3 (2 * stackCode p) 1
  | .loadSPHL => 0xF9
  | .loadHLSP _ => 0xF8
  | .addHL p => opcodeByte 0 (2 * pairCode p + 1) 1
  | .incReg16 p => opcodeByte 0 (2 * pairCode p) 3
  | .decReg16 p => opcodeByte 0 (2 * pairCode p + 1) 3
  | .addSP _ => 0xE8
  | .jump _ => 0xC3
  | .jumpIf cc _ => opcodeByte 3 (condCode cc) 2
  | .jumpRel _ => 0x18
  | .jumpRelIf cc _ => opcodeByte 0 (4 + condCode cc) 0
  | .jumpHL => 0xE9
  | .call _ => 0xCD
  | .callIf cc _ => opcodeByte 3 (condCode cc) 4
  | .ret => 0xC9
  | .retIf cc => opcodeByte 3 (condCode cc) 0
  | .restart b => opcodeByte 3 b.toNat 7

/-- Whether a form stands in the second table (R129). -/
def Form.second : Form → Bool
  | .rotate .. | .testBit .. | .resetBit .. | .setBit .. => true
  | _ => false

/-- The operand bytes after the opcode of a form (R120, R127). -/
def Form.operands : Form → List Byte
  | .aluImm _ n | .loadImm _ n | .storeImm n => [n]
  | .loadHLSP e | .addSP e | .jumpRel e | .jumpRelIf _ e => [e]
  | .loadA m | .storeA m => m.operands
  | .loadImm16 _ v | .storeSP v | .jump v | .jumpIf _ v | .call v | .callIf _ v => [lowByte v, highByte v]
  | _ => []

/-- The bytes that follow the first byte of a form: those its fetch passes after the opcode's (R280). -/
def Form.fetches (f : Form) : Nat := if f.second then 1 else f.operands.length

/-- The bytes of a form: its opcode byte, in the second table after 0xCB, then its operand (R120, R135). -/
def Form.bytes (f : Form) : List Byte := if f.second then [0xCB, f.op] else f.op :: f.operands

/-- How a form's instruction is encoded, and where it stands in the opcode tables. -/
theorem encode_and_entry_instr (f : Form) :
    encode f.instr = f.bytes ∧ entryOf f.instr = { second := f.second, op := f.op, operands := f.operands } := by
  cases f with
  | illegal k => fin_cases k <;> exact ⟨rfl, rfl⟩
  | rotateA y => fin_cases y <;> exact ⟨rfl, rfl⟩
  | alu op o => cases op <;> rcases o with (_ | _ | _ | _ | _ | _ | _) | _ <;> exact ⟨rfl, rfl⟩
  | rotate op o => cases op <;> rcases o with (_ | _ | _ | _ | _ | _ | _) | _ <;> exact ⟨rfl, rfl⟩
  | testBit b o | resetBit b o | setBit b o =>
    cases b <;> rcases o with (_ | _ | _ | _ | _ | _ | _) | _ <;> exact ⟨rfl, rfl⟩
  | inc o | dec o => rcases o with (_ | _ | _ | _ | _ | _ | _) | _ <;> exact ⟨rfl, rfl⟩
  | load dst src => cases dst <;> cases src <;> exact ⟨rfl, rfl⟩
  | aluImm op _ => cases op <;> exact ⟨rfl, rfl⟩
  | loadIndHL r | storeIndHL r | loadImm r _ => cases r <;> exact ⟨rfl, rfl⟩
  | loadA m | storeA m => cases m <;> exact ⟨rfl, rfl⟩
  | loadAMoveHL up | storeAMoveHL up => cases up <;> exact ⟨rfl, rfl⟩
  | loadImm16 p _ | addHL p | incReg16 p | decReg16 p | push p | pop p => cases p <;> exact ⟨rfl, rfl⟩
  | jumpIf cc _ | jumpRelIf cc _ | callIf cc _ | retIf cc => cases cc <;> exact ⟨rfl, rfl⟩
  | restart b => cases b <;> exact ⟨rfl, rfl⟩
  | _ => exact ⟨rfl, rfl⟩

theorem encode_instr (f : Form) : encode f.instr = f.bytes := (encode_and_entry_instr f).1

theorem entryOf_instr (f : Form) : entryOf f.instr = { second := f.second, op := f.op, operands := f.operands } :=
  (encode_and_entry_instr f).2

/-- The fetch passes the bytes of the instruction after its first. -/
theorem length_encode_instr (f : Form) : (encode f.instr).length = f.fetches + 1 := by
  rw [encode_instr, Form.bytes, Form.fetches]
  split <;> rfl

/-! The forms as meanings. -/

/-- One step of the forms that move `HL`: up for `HL+`, down for `HL-` (R155 to R158). -/
def moveStep (up : Bool) : Word := if up then 1 else -1

/-- `RST` goes to `8 * y` (R273). -/
def restartTarget (b : Index8) : Word := BitVec.ofNat 16 (8 * b.toNat)

/-- What the instruction of a form does to the fetched state `t`; `origin` is the address its opcode was read from. -/
def Form.effect (f : Form) (origin : Word) (t : State) : State :=
  match f with
  | .nop | .stop => t
  | .halt => if t.ime = false ∧ t.pending ≠ 0 then { t with haltBug := true } else { t with halted := true, pc := origin }
  | .di => { t with ime := false, imeDelay := 0 }
  | .ei => if t.imeDelay = 0 then { t with imeDelay := 2 } else t
  | .reti => returnFromInterrupt t
  | .illegal k => { t with illegalLog := t.illegalLog ++ [((Instr.illegals.get k).1, origin)] }
  | .daa => { t with a := (daa8 t.a t.f).1, f := (daa8 t.a t.f).2 }
  | .cpl => { t with a := t.a ^^^ 0xFF, f := { t.f with n := true, h := true } }
  | .scf => { t with f := { t.f with n := false, h := false, c := true } }
  | .ccf => { t with f := { t.f with n := false, h := false, c := !t.f.c } }
  | .rotateA y => { t with a := (rotAFlagged (rotOfField y) t.a t.f).1, f := (rotAFlagged (rotOfField y) t.a t.f).2 }
  | .alu op o => aluOnA op (t.operand o) t
  | .aluImm op n => aluOnA op n t
  | .inc o => { t with f := (inc8 (t.operand o) t.f).2 }.setOperand o (inc8 (t.operand o) t.f).1
  | .dec o => { t with f := (dec8 (t.operand o) t.f).2 }.setOperand o (dec8 (t.operand o) t.f).1
  | .rotate op o => { t with f := (rotFlagged op (t.operand o) t.f).2 }.setOperand o (rotFlagged op (t.operand o) t.f).1
  | .testBit b o => { t with f := bitFlags b.toNat (t.operand o) t.f }
  | .resetBit b o => t.setOperand o (t.operand o &&& ~~~(bitMask b.toNat))
  | .setBit b o => t.setOperand o (t.operand o ||| bitMask b.toNat)
  | .load dst src => t.setReg dst (t.reg src)
  | .loadIndHL dst => t.setReg dst (t.readByte t.hl)
  | .storeIndHL src => t.writeByte t.hl (t.reg src)
  | .loadImm dst n => t.setReg dst n
  | .storeImm n => t.writeByte t.hl n
  | .loadA m => { t with a := t.readByte (m.addr t) }
  | .storeA m => t.writeByte (m.addr t) t.a
  | .loadAMoveHL up => { t with a := t.readByte t.hl }.setHL (t.hl + moveStep up)
  | .storeAMoveHL up => (t.writeByte t.hl t.a).setHL (t.hl + moveStep up)
  | .loadImm16 p n => t.setReg16 p n
  | .storeSP addr => t.writeWord addr t.sp
  | .push p => t.push16 (t.stackReg p)
  | .pop p => t.afterPop.setStackReg p t.popped
  | .loadSPHL => { t with sp := t.hl }
  | .loadHLSP e => { t with f := (addSigned t.sp e).2 }.setHL (addSigned t.sp e).1
  | .addHL p => { t with f := (add16 t.hl (t.reg16 p) t.f).2 }.setHL (add16 t.hl (t.reg16 p) t.f).1
  | .incReg16 p => t.setReg16 p (t.reg16 p + 1)
  | .decReg16 p => t.setReg16 p (t.reg16 p - 1)
  | .addSP e => { t with f := (addSigned t.sp e).2, sp := (addSigned t.sp e).1 }
  | .jump addr => jumpTo addr t
  | .jumpIf cc addr => if condHolds cc t.f then jumpTo addr t else t
  | .jumpRel e => jumpBy e t
  | .jumpRelIf cc e => if condHolds cc t.f then jumpBy e t else t
  | .jumpHL => jumpTo t.hl t
  | .call addr => callTo addr t
  | .callIf cc addr => if condHolds cc t.f then callTo addr t else t
  | .ret => returnTo t
  | .retIf cc => if condHolds cc t.f then returnTo t else t
  | .restart b => callTo (restartTarget b) t

/-- The cycles the instruction of a form reports in a state with these flags (R131, R132). -/
def Form.cycles (f : Form) (flags : Flags) : Nat :=
  match f with
  | .alu _ o => if o = .indHL then 8 else 4
  | .inc o | .dec o => if o = .indHL then 12 else 4
  | .testBit _ o => if o = .indHL then 12 else 8
  | .rotate _ o | .resetBit _ o | .setBit _ o => if o = .indHL then 16 else 8
  | .aluImm .. | .loadIndHL _ | .storeIndHL _ | .loadImm .. | .loadAMoveHL _ | .storeAMoveHL _ | .loadSPHL | .addHL _
  | .incReg16 _ | .decReg16 _ => 8
  | .storeImm _ | .loadImm16 .. | .pop _ | .loadHLSP _ | .jumpRel _ => 12
  | .loadA m | .storeA m => m.cycles
  | .push _ | .addSP _ | .jump _ | .ret | .reti | .restart _ => 16
  | .storeSP _ => 20
  | .call _ => 24
  | .jumpIf cc _ => if condHolds cc flags then 16 else 12
  | .jumpRelIf cc _ => if condHolds cc flags then 12 else 8
  | .callIf cc _ => if condHolds cc flags then 24 else 12
  | .retIf cc => if condHolds cc flags then 20 else 8
  | _ => 4

/-- An answer that depends on a condition is complete on both branches. -/
theorem done_ite (c : Prop) [Decidable c] (m n : Nat) (s t : State) :
    (if c then done m s else done n t) = done (if c then m else n) (if c then s else t) := by
  split <;> rfl

/-- The meaning of a form's instruction: the fetch, then its effect, then the report of its cycles (R281). -/
theorem exec_instr (f : Form) (s : State) :
    exec f.instr s = done (f.cycles s.f) (f.effect s.pc (s.fetched f.fetches)) := by
  cases f with
  | halt => exact (done_ite _ 4 4 _ _).trans (by rw [ite_self]; rfl)
  | illegal k => fin_cases k <;> rfl
  | rotateA y => fin_cases y <;> rfl
  | alu op o => cases op <;> rcases o with (_ | _ | _ | _ | _ | _ | _) | _ <;> rfl
  | rotate op o => cases op <;> rcases o with (_ | _ | _ | _ | _ | _ | _) | _ <;> rfl
  | testBit b o | resetBit b o | setBit b o => cases b <;> rcases o with (_ | _ | _ | _ | _ | _ | _) | _ <;> rfl
  | inc o | dec o => rcases o with (_ | _ | _ | _ | _ | _ | _) | _ <;> rfl
  | load dst src => cases dst <;> cases src <;> rfl
  | aluImm op _ => cases op <;> rfl
  | loadIndHL r | storeIndHL r | loadImm r _ => cases r <;> rfl
  | loadA m | storeA m => cases m <;> rfl
  | loadAMoveHL up | storeAMoveHL up => cases up <;> rfl
  | loadImm16 p _ | addHL p | incReg16 p | decReg16 p | push p | pop p => cases p <;> rfl
  | jumpIf cc _ | jumpRelIf cc _ | callIf cc _ | retIf cc => cases cc <;> exact done_ite _ _ _ _ _
  | restart b => cases b <;> rfl
  | _ => rfl

/-! Every well-formed instruction is of some form. The form is read off the instruction's entry, by the fields of its opcode
(R121, R123 to R129). -/

/-- `rr[p]` (R124). -/
def pairOfField (p : Nat) : Reg16 :=
  match p with
  | 0 => .bc | 1 => .de | 2 => .hl
  | _ => .sp

/-- `rr2[p]` (R125). -/
def stackOfField (p : Nat) : StackReg :=
  match p with
  | 0 => .bc | 1 => .de | 2 => .hl
  | _ => .af

/-- The condition of a field `cc` (R126). -/
def condOfField (cc : Nat) : Cond :=
  match cc with
  | 0 => .nz | 1 => .z | 2 => .nc
  | _ => .c

/-- The two-operand operation of a field `y` (R126). -/
def aluOfField (y : Nat) : AluOp :=
  match y with
  | 0 => .add | 1 => .adc | 2 => .sub | 3 => .sbc | 4 => .and | 5 => .xor | 6 => .or
  | _ => .cp

/-- The bit number, or the restart, of a field `y` (R126). -/
def indexOfField (y : Nat) : Index8 :=
  match y with
  | 0 => .i0 | 1 => .i1 | 2 => .i2 | 3 => .i3 | 4 => .i4 | 5 => .i5 | 6 => .i6
  | _ => .i7

/-- The form of an entry of the second table (R129). -/
def secondForm (op : Byte) : Form :=
  let o := operandOfField (fieldZ op)
  match fieldX op with
  | 0 => .rotate (rotOfField (fieldY op)) o
  | 1 => .testBit (indexOfField (fieldY op)) o
  | 2 => .resetBit (indexOfField (fieldY op)) o
  | _ => .setBit (indexOfField (fieldY op)) o

/-- The form of `LD` between two operands of the field table; between `(HL)` and itself stands `HALT` (R128). -/
def loadForm (dst src : Operand8) : Form :=
  match dst, src with
  | .reg r, .reg q => .load r q
  | .reg r, .indHL => .loadIndHL r
  | .indHL, .reg q => .storeIndHL q
  | .indHL, .indHL => .halt

/-- The form of an opcode of the first quarter of the base table, `n` and `w` its operand as a byte and as a word (R128). -/
def quarter0Form (y z : Nat) (n : Byte) (w : Word) : Form :=
  match z, y with
  | 0, 0 => .nop
  | 0, 1 => .storeSP w
  | 0, 2 => .stop
  | 0, 3 => .jumpRel n
  | 0, _ => .jumpRelIf (condOfField (y - 4)) n
  | 1, _ => if y % 2 = 0 then .loadImm16 (pairOfField (y / 2)) w else .addHL (pairOfField (y / 2))
  | 2, 0 => .storeA .bc
  | 2, 1 => .loadA .bc
  | 2, 2 => .storeA .de
  | 2, 3 => .loadA .de
  | 2, _ => if y % 2 = 0 then .storeAMoveHL (y = 4) else .loadAMoveHL (y = 5)
  | 3, _ => if y % 2 = 0 then .incReg16 (pairOfField (y / 2)) else .decReg16 (pairOfField (y / 2))
  | 4, _ => .inc (operandOfField y)
  | 5, _ => .dec (operandOfField y)
  | 6, _ =>
    match operandOfField y with
    | .reg r => .loadImm r n
    | .indHL => .storeImm n
  | _, 4 => .daa
  | _, 5 => .cpl
  | _, 6 => .scf
  | _, 7 => .ccf
  | _, _ => .rotateA (Fin.ofNat 4 y)

/-- The form of an opcode of the last quarter of the base table that is not illegal (R128). -/
def quarter3Form (y z : Nat) (n : Byte) (w : Word) : Form :=
  match z, y with
  | 0, 4 => .storeA (.high n)
  | 0, 5 => .addSP n
  | 0, 6 => .loadA (.high n)
  | 0, 7 => .loadHLSP n
  | 0, _ => .retIf (condOfField y)
  | 1, 1 => .ret
  | 1, 3 => .reti
  | 1, 5 => .jumpHL
  | 1, 7 => .loadSPHL
  | 1, _ => .pop (stackOfField (y / 2))
  | 2, 4 => .storeA .highC
  | 2, 5 => .storeA (.direct w)
  | 2, 6 => .loadA .highC
  | 2, 7 => .loadA (.direct w)
  | 2, _ => .jumpIf (condOfField y) w
  | 3, 0 => .jump w
  | 3, 6 => .di
  | 3, _ => .ei
  | 4, _ => .callIf (condOfField y) w
  | 5, 1 => .call w
  | 5, _ => .push (stackOfField (y / 2))
  | 6, _ => .aluImm (aluOfField y) n
  | _, _ => .restart (indexOfField y)

/-- The form of an opcode of the base table, `n` and `w` its operand as a byte and as a word (R128, R133). -/
def baseForm (op n : Byte) (w : Word) : Form :=
  match Instr.illegals.findFinIdx? (fun x => x.1 == op), fieldX op with
  | some k, _ => .illegal k
  | none, 0 => quarter0Form (fieldY op) (fieldZ op) n w
  | none, 1 => loadForm (operandOfField (fieldY op)) (operandOfField (fieldZ op))
  | none, 2 => .alu (aluOfField (fieldY op)) (operandOfField (fieldZ op))
  | none, _ => quarter3Form (fieldY op) (fieldZ op) n w

/-- The form of an entry of the opcode tables. -/
def formOf : Entry → Form
  | ⟨true, op, _⟩ => secondForm op
  | ⟨false, op, operands⟩ => baseForm op (operands.getD 0 0) (joinBytes (operands.getD 1 0) (operands.getD 0 0))

/-- A word is made of its two bytes. -/
theorem joinBytes_high_low (w : Word) : joinBytes (highByte w) (lowByte w) = w := by
  simp only [joinBytes, highByte, lowByte]
  exact BitVec.extractLsb'_append_extractLsb'_eq_extractLsb' (by decide) |>.trans (by simp)

/-- The form read off an instruction's entry is the instruction's form. -/
theorem instr_formOf {i : Instr} (h : WellFormed i) : (formOf (entryOf i)).instr = i := by
  cases i with
  | prefixCB => exact absurd rfl h
  | ldBCN16 w | ldDEN16 w | ldHLN16 w | ldSPN16 w | ldIndA16SP w | ldIndA16A w | ldAIndA16 w | jpA16 w | jpNZA16 w
  | jpZA16 w | jpNCA16 w | jpCA16 w | callA16 w | callNZA16 w | callZA16 w | callNCA16 w | callCA16 w =>
    conv_rhs => rw [← joinBytes_high_low w]
    rfl
  | _ => rfl

/-- Every well-formed instruction is of some form. -/
theorem exists_form {i : Instr} (h : WellFormed i) : ∃ f : Form, f.instr = i := ⟨_, instr_formOf h⟩

end Sys2Proof.Machine
end

section
/-! PROOFS. What the instruction of a form may change (`Form.footprint`), that the spec's tables say the same
(`footprint_tabulated`), and that the instruction keeps to it (`exec_changesOnly`). -/

namespace Sys2Proof.Machine

/-! What the instruction of a form may change. -/

/-- The parts of the state an instruction may change, apart from the flags and the reported cycles. -/
structure Footprint where
  regs : List Reg8 := []
  stores : List Word := []
  sp : Bool := false
  pc : Bool := false
  ime : Bool := false
  imeDelay : Bool := false
  halts : Bool := false
  logs : Bool := false

/-- The register that an operand is, if it is one. -/
def operandRegs : Operand8 → List Reg8
  | .reg r => [r]
  | .indHL => []

/-- The address that an operand stands for, if it is in memory. -/
def operandStores (t : State) : Operand8 → List Word
  | .reg _ => []
  | .indHL => [t.hl]

/-- The 8-bit halves of `rr[p]` (R124). -/
def pairRegs : Reg16 → List Reg8
  | .bc => [.b, .c]
  | .de => [.d, .e]
  | .hl => [.h, .l]
  | .sp => []

/-- The registers among the halves of `rr2[p]` (R125). -/
def stackRegs : StackReg → List Reg8
  | .bc => [.b, .c]
  | .de => [.d, .e]
  | .hl => [.h, .l]
  | .af => [.a]

/-- The addresses a push stores to (R170). -/
def pushStores (t : State) : List Word := [t.sp - 1, t.sp - 2]

/-- What the instruction of a form may change, in a state whose registers are those before the instruction. -/
def Form.footprint (f : Form) (t : State) : Footprint :=
  match f with
  | .nop | .stop | .scf | .ccf | .testBit .. => {}
  | .halt => { pc := true, halts := true }
  | .di => { ime := true, imeDelay := true }
  | .ei => { imeDelay := true }
  | .reti => { sp := true, pc := true, ime := true }
  | .illegal _ => { logs := true }
  | .daa | .cpl | .rotateA _ | .loadA _ => { regs := [.a] }
  | .alu op _ | .aluImm op _ => { regs := if op = .cp then [] else [.a] }
  | .inc o | .dec o | .rotate _ o | .resetBit _ o | .setBit _ o => { regs := operandRegs o, stores := operandStores t o }
  | .load r _ | .loadIndHL r | .loadImm r _ => { regs := [r] }
  | .storeIndHL _ | .storeImm _ => { stores := [t.hl] }
  | .storeA m => { stores := [m.addr t] }
  | .loadAMoveHL _ => { regs := [.a, .h, .l] }
  | .storeAMoveHL _ => { regs := [.h, .l], stores := [t.hl] }
  | .loadImm16 p _ | .incReg16 p | .decReg16 p => { regs := pairRegs p, sp := p = .sp }
  | .storeSP addr => { stores := [addr, addr + 1] }
  | .push _ => { sp := true, stores := pushStores t }
  | .pop p => { regs := stackRegs p, sp := true }
  | .loadSPHL | .addSP _ => { sp := true }
  | .loadHLSP _ | .addHL _ => { regs := [.h, .l] }
  | .jump _ | .jumpRel _ | .jumpHL => { pc := true }
  | .jumpIf cc _ | .jumpRelIf cc _ => { pc := condHolds cc t.f }
  | .call _ | .restart _ => { sp := true, pc := true, stores := pushStores t }
  | .callIf cc _ =>
    { sp := condHolds cc t.f, pc := condHolds cc t.f, stores := bif condHolds cc t.f then pushStores t else [] }
  | .ret => { sp := true, pc := true }
  | .retIf cc => { sp := condHolds cc t.f, pc := condHolds cc t.f }

/-- The spec's tables, which Safety.lean writes by opcode byte, give an instruction this footprint in a state `t`. -/
structure Tabulated (i : Instr) (t : State) (p : Footprint) : Prop where
  regs : regsWritten i = p.regs
  stores : storedTo i t = p.stores
  sp : writesSp i t.f = p.sp
  pc : i ≠ .halt → (!(entryOf i).second && transfers (entryOf i).op t.f) = p.pc

/-- The tables hold of a form: its opcode byte has the fields that they test. -/
theorem footprint_tabulated (f : Form) (t : State) : Tabulated f.instr t (f.footprint t) := by
  cases f
  case halt => exact ⟨rfl, rfl, rfl, absurd rfl⟩
  case nop | stop | di | ei | reti | daa | cpl | scf | ccf | loadSPHL | jumpHL | ret => exact ⟨rfl, rfl, rfl, fun _ => rfl⟩
  case illegal k => fin_cases k <;> exact ⟨rfl, rfl, rfl, fun _ => rfl⟩
  case rotateA y => fin_cases y <;> exact ⟨rfl, rfl, rfl, fun _ => rfl⟩
  case alu op o => cases op <;> rcases o with (_ | _ | _ | _ | _ | _ | _) | _ <;> exact ⟨rfl, rfl, rfl, fun _ => rfl⟩
  case rotate op o => cases op <;> rcases o with (_ | _ | _ | _ | _ | _ | _) | _ <;> exact ⟨rfl, rfl, rfl, fun _ => rfl⟩
  case testBit b o | resetBit b o | setBit b o =>
    cases b <;> rcases o with (_ | _ | _ | _ | _ | _ | _) | _ <;> exact ⟨rfl, rfl, rfl, fun _ => rfl⟩
  case inc o | dec o => rcases o with (_ | _ | _ | _ | _ | _ | _) | _ <;> exact ⟨rfl, rfl, rfl, fun _ => rfl⟩
  case load dst src => cases dst <;> cases src <;> exact ⟨rfl, rfl, rfl, fun _ => rfl⟩
  case loadIndHL r | storeIndHL r => cases r <;> exact ⟨rfl, rfl, rfl, fun _ => rfl⟩
  case loadAMoveHL up | storeAMoveHL up => cases up <;> exact ⟨rfl, rfl, rfl, fun _ => rfl⟩
  case addHL p | incReg16 p | decReg16 p | push p | pop p => cases p <;> exact ⟨rfl, rfl, rfl, fun _ => rfl⟩
  case restart b => cases b <;> exact ⟨rfl, rfl, rfl, fun _ => rfl⟩
  case' aluImm op _ => cases op
  case' loadImm r _ => cases r
  case' loadImm16 p _ => cases p
  case' loadA m | storeA m => cases m
  case' jumpIf cc _ | jumpRelIf cc _ | callIf cc _ | retIf cc => cases cc
  all_goals
    constructor <;>
    simp [entryOf_instr, Form.second, Form.op, Form.operands, AddrForm.operands, Form.footprint, AddrForm.addr, pairRegs,
      pushStores, opcodeByte, regCode, aluCode, pairCode, condCode, fieldX, fieldY, fieldZ, fieldP, Entry.word,
      joinBytes_high_low, regsWritten, baseRegsWritten, regsOfField, regsOfPair, storedTo, writesSp, isPush, isPop, isRst,
      isJumpIf, isJumpRelIf, isCallIf, isRetIf, isConditional, transfers, conditionHolds, condHolds, cond_eq_ite]

/-! What a change confined to a footprint leaves as it is. -/

/-- The parts of the state that only the passing of time or the host changes (R305). -/
def State.timed (s : State) : Nat × Nat × PpuMode × Nat × Frame × List Frame × Buttons × List Buttons :=
  (s.clock, s.timaAcc, s.mode, s.lineCycles, s.frameBuffer, s.framesReady, s.buttons, s.buttonInputs)

/-- What the router's stores keep of memory: its canonical form, the bits of STAT that a program cannot write (R40, R62), and
LY, which a store can only clear (R42, R62). -/
structure Memory.KeepsDisplay (m n : Memory) : Prop where
  canonical : m.wf → n.wf
  stat : n.get .io 0x41 &&& 0x87 = m.get .io 0x41 &&& 0x87
  ly : n.get .io 0x44 = m.get .io 0x44 ∨ n.get .io 0x44 = 0

/-- `t` differs from `s` at most in the parts that the footprint `p` names, in the flags and in the reported cycles; memory and
the devices change only as the stores to the addresses of `p` change them. -/
structure ChangesOnly (p : Footprint) (s t : State) : Prop where
  reg : ∀ r ∉ p.regs, t.reg r = s.reg r
  sp : p.sp = false → t.sp = s.sp
  pc : p.pc = false → t.pc = s.pc
  ime : p.ime = false → t.ime = s.ime
  imeDelay : p.imeDelay = false → t.imeDelay = s.imeDelay
  halted : p.halts = false → t.halted = s.halted ∧ t.haltBug = s.haltBug
  illegalLog : p.logs = false → t.illegalLog = s.illegalLog
  timed : t.timed = s.timed
  memory : s.mem.KeepsDisplay t.mem
  bank : (∀ x ∈ p.stores, 0x8000 ≤ x.toNat) → t.bank = s.bank
  divAcc : t.divAcc = s.divAcc ∨ 0xFF04 ∈ p.stores ∧ t.divAcc = 0
  serialTrace : 0xFF02 ∉ p.stores → t.serialTrace = s.serialTrace
  apu : (∀ x ∈ p.stores, x.toNat < 0xFF10 ∨ 0xFF40 ≤ x.toNat) → t.apu = s.apu
  ie : 0xFFFF ∉ p.stores → t.ie = s.ie

theorem Memory.KeepsDisplay.refl (m : Memory) : m.KeepsDisplay m := ⟨id, rfl, .inl rfl⟩

theorem Memory.KeepsDisplay.trans {m n o : Memory} (h : m.KeepsDisplay n) (g : n.KeepsDisplay o) : m.KeepsDisplay o where
  canonical := g.canonical ∘ h.canonical
  stat := g.stat.trans h.stat
  ly := g.ly.elim (fun e => by rw [e]; exact h.ly) .inr

theorem ChangesOnly.refl (p : Footprint) (s : State) : ChangesOnly p s s where
  reg _ _ := rfl
  sp _ := rfl
  pc _ := rfl
  ime _ := rfl
  imeDelay _ := rfl
  halted _ := ⟨rfl, rfl⟩
  illegalLog _ := rfl
  timed := rfl
  memory := .refl _
  bank _ := rfl
  divAcc := .inl rfl
  serialTrace _ := rfl
  apu _ := rfl
  ie _ := rfl

theorem ChangesOnly.trans {p : Footprint} {s t u : State} (h : ChangesOnly p s t) (g : ChangesOnly p t u) :
    ChangesOnly p s u where
  reg r hr := (g.reg r hr).trans (h.reg r hr)
  sp e := (g.sp e).trans (h.sp e)
  pc e := (g.pc e).trans (h.pc e)
  ime e := (g.ime e).trans (h.ime e)
  imeDelay e := (g.imeDelay e).trans (h.imeDelay e)
  halted e := ⟨(g.halted e).1.trans (h.halted e).1, (g.halted e).2.trans (h.halted e).2⟩
  illegalLog e := (g.illegalLog e).trans (h.illegalLog e)
  timed := g.timed.trans h.timed
  memory := h.memory.trans g.memory
  bank e := (g.bank e).trans (h.bank e)
  divAcc := g.divAcc.elim (fun e => by rw [e]; exact h.divAcc) .inr
  serialTrace e := (g.serialTrace e).trans (h.serialTrace e)
  apu e := (g.apu e).trans (h.apu e)
  ie e := (g.ie e).trans (h.ie e)

/-! The operations on registers and control state. -/

section
variable {p : Footprint} (s : State)

/-- A change of the registers, the flags, `SP`, `PC` and the reported cycles alone. -/
theorem ChangesOnly.of_registers {t : State}
    (shape : t = { s with a := t.a, b := t.b, c := t.c, d := t.d, e := t.e, h := t.h, l := t.l, f := t.f, sp := t.sp
                          pc := t.pc, cycles := t.cycles })
    (reg : ∀ r ∉ p.regs, t.reg r = s.reg r) (sp : p.sp = false → t.sp = s.sp) (pc : p.pc = false → t.pc = s.pc) :
    ChangesOnly p s t where
  reg := reg
  sp := sp
  pc := pc
  ime _ := by rw [shape]
  imeDelay _ := by rw [shape]
  halted _ := by rw [shape]; exact ⟨rfl, rfl⟩
  illegalLog _ := by rw [shape]
  timed := by rw [shape]; rfl
  memory := by rw [shape]; exact .refl _
  bank _ := by rw [shape]
  divAcc := by rw [shape]; exact .inl rfl
  serialTrace _ := by rw [shape]
  apu _ := by rw [shape]
  ie _ := by rw [shape]

theorem changesOnly_setFlags (f : Flags) : ChangesOnly p s { s with f := f } :=
  .of_registers s rfl (fun r _ => by cases r <;> rfl) (fun _ => rfl) fun _ => rfl

theorem changesOnly_reports (n : Nat) : ChangesOnly p s (s.reports n) :=
  .of_registers s rfl (fun r _ => by cases r <;> rfl) (fun _ => rfl) fun _ => rfl

theorem changesOnly_setReg {r : Reg8} (v : Byte) (h : r ∈ p.regs) : ChangesOnly p s (s.setReg r v) :=
  .of_registers s (by cases r <;> rfl)
    (fun q hq => by rw [State.reg_setReg, if_neg]; exact fun e => hq (e ▸ h)) (fun _ => s.setReg_sp r v)
    fun _ => s.setReg_pc r v

theorem changesOnly_setSp (v : Word) (h : p.sp = true) : ChangesOnly p s { s with sp := v } :=
  .of_registers s rfl (fun r _ => by cases r <;> rfl) (fun e => absurd (h.symm.trans e) (by decide)) fun _ => rfl

theorem changesOnly_jumpTo (v : Word) (h : p.pc = true) : ChangesOnly p s (jumpTo v s) :=
  .of_registers s rfl (fun r _ => by cases r <;> rfl) (fun _ => rfl) fun e => absurd (h.symm.trans e) (by decide)

/-- A change that depends on a condition. -/
theorem changesOnly_ite {c : Prop} [Decidable c] {t : State} (h : c → ChangesOnly p s t) :
    ChangesOnly p s (if c then t else s) := by
  split
  case isTrue hc => exact h hc
  case isFalse => exact .refl p s

theorem changesOnly_setRegs {r q : Reg8} (v w : Byte) (h : [r, q] ⊆ p.regs) :
    ChangesOnly p s ((s.setReg r v).setReg q w) :=
  (changesOnly_setReg s v (h List.mem_cons_self)).trans
    (changesOnly_setReg _ w (h (List.mem_cons_of_mem _ List.mem_cons_self)))

theorem changesOnly_setHL (v : Word) (h : [.h, .l] ⊆ p.regs) : ChangesOnly p s (s.setHL v) :=
  changesOnly_setRegs s (highByte v) (lowByte v) h

end

/-! Memory under a store. -/

theorem Memory.KeepsDisplay.of_set {m : Memory} {r : Region} {i : Nat} (v : Byte) (hi : i < m.size r)
    (stat : r = .io ∧ i = 0x41 → v &&& 0x87 = m.get .io 0x41 &&& 0x87) (ly : r = .io ∧ i = 0x44 → v = 0) :
    m.KeepsDisplay (m.set r i v) where
  canonical h := Memory.wf_set h hi
  stat := by
    rw [Memory.get_set]
    split
    case isTrue h => exact stat ⟨h.1.symm, h.2.symm⟩
    case isFalse => rfl
  ly := by
    rw [Memory.get_set]
    split
    case isTrue h => exact .inr (ly ⟨h.1.symm, h.2.symm⟩)
    case isFalse => exact .inl rfl

/-- A byte stored outside the I/O file. -/
theorem Memory.KeepsDisplay.of_set_ne_io {m : Memory} {r : Region} {i : Nat} (v : Byte) (hr : r ≠ .io)
    (hi : i < m.size r) : m.KeepsDisplay (m.set r i v) :=
  .of_set v hi (fun h => absurd h.1 hr) fun h => absurd h.1 hr

theorem setIo_keepsDisplay (s : State) {off : Nat} (v : Byte) (ho : off < 128) (h41 : off ≠ 0x41) (h44 : off ≠ 0x44) :
    s.mem.KeepsDisplay (s.setIo off v).mem :=
  Memory.KeepsDisplay.of_set (r := .io) v ho (fun h => absurd h.2 h41) fun h => absurd h.2 h44

theorem oamDma_keepsDisplay (v : Byte) (s : State) : s.mem.KeepsDisplay (oamDma v s).mem := by
  have fold : ∀ (l : List Nat) (t : State), (∀ i ∈ l, i < 160) → t.mem.KeepsDisplay (l.foldl (dmaByte v) t).mem := by
    intro l
    induction l with
    | nil => exact fun t _ => .refl _
    | cons i rest ih =>
      intro t hl
      obtain ⟨hi, hrest⟩ := List.forall_mem_cons.mp hl
      have first : t.mem.KeepsDisplay (dmaByte v t i).mem := Memory.KeepsDisplay.of_set_ne_io (r := .oam) _ (by decide) hi
      exact first.trans (ih _ hrest)
  exact fold _ s fun i hi => List.mem_range.mp hi

/-- A write to STAT keeps the bits that are the mode, the coincidence and bit 7 (R40, R62). -/
theorem stat_write_keeps (stat v : Byte) : ((stat &&& 0x87) ||| (v &&& 0x78)) &&& 0x87 = stat &&& 0x87 := by
  ext i hi
  interval_cases i <;> simp

theorem writeIo_keepsDisplay (s : State) {off : Nat} (v : Byte) (ho : off < 128) :
    s.mem.KeepsDisplay (writeIo s off v).mem := by
  by_cases h41 : off = 0x41
  · subst h41
    exact Memory.KeepsDisplay.of_set (r := .io) _ ho (fun _ => stat_write_keeps s.stat v) fun h => absurd h.2 (by decide)
  by_cases h44 : off = 0x44
  · subst h44
    exact Memory.KeepsDisplay.of_set (r := .io) _ ho (fun h => absurd h.2 (by decide)) fun _ => rfl
  obtain ⟨w, h⟩ | ⟨rfl, -, h⟩ | ⟨rfl, h⟩ | ⟨rfl, h⟩ | ⟨-, h⟩ := writeIo_cases s off v <;> rw [h]
  · exact setIo_keepsDisplay s w ho h41 h44
  · exact setIo_keepsDisplay s v ho h41 h44
  · exact setIo_keepsDisplay s 0 ho h41 h44
  · exact (setIo_keepsDisplay s v ho h41 h44).trans (oamDma_keepsDisplay v _)
  · exact setIo_keepsDisplay s v ho h41 h44

theorem writeExternalRam_keepsDisplay (m : Memory) (bank : BankState) (addr : Nat) (v : Byte) :
    m.KeepsDisplay (writeExternalRam m bank addr v) := by
  unfold writeExternalRam
  split
  case h_1 => exact .refl m
  case h_2 i _ =>
    unfold ramPut
    split
    case isTrue hi => exact .of_set_ne_io _ (by decide) hi
    case isFalse => exact .refl m

theorem writeByte_keepsDisplay (s : State) (x : Word) (v : Byte) : s.mem.KeepsDisplay (s.writeByte x v).mem := by
  obtain ⟨-, h⟩ | ⟨-, r, i, -, hr, hi, h⟩ | ⟨-, -, h⟩ | ⟨-, -, h⟩ | ⟨-, hx, h⟩ | ⟨-, h⟩ := writeByte_cases s x v <;> rw [h]
  · exact .refl _
  · exact .of_set_ne_io v hr hi
  · exact writeExternalRam_keepsDisplay s.mem s.bank x.toNat v
  · exact .refl _
  · exact writeIo_keepsDisplay s v (by omega)
  · exact .refl _

/-! The devices under a store. -/

/-- What a store to `x` can do to the bank registers, `DivAcc`, the serial trace, the sound unit and IE (R34, R47, R55, R62). -/
structure StoreFrame (x : Word) (s t : State) : Prop where
  bank : 0x8000 ≤ x.toNat → t.bank = s.bank
  divAcc : t.divAcc = s.divAcc ∨ x = 0xFF04 ∧ t.divAcc = 0
  serialTrace : x ≠ 0xFF02 → t.serialTrace = s.serialTrace
  apu : x.toNat < 0xFF10 ∨ 0xFF40 ≤ x.toNat → t.apu = s.apu
  ie : x ≠ 0xFFFF → t.ie = s.ie

/-- A store that reaches none of them. -/
theorem StoreFrame.of_mem (x : Word) (s : State) (m : Memory) : StoreFrame x s (s.withMem m) :=
  ⟨fun _ => rfl, .inl rfl, fun _ => rfl, fun _ => rfl, fun _ => rfl⟩

theorem writeIo_storeFrame (s : State) {x : Word} {off : Nat} (v : Byte) (hx : x.toNat = 0xFF00 + off) :
    StoreFrame x s (writeIo s off v) := by
  obtain ⟨w, e⟩ | ⟨rfl, -, e⟩ | ⟨rfl, e⟩ | ⟨-, e⟩ | ⟨h, e⟩ := writeIo_cases s off v <;> rw [e]
  · exact .of_mem x s _
  · exact ⟨fun _ => rfl, .inl rfl, absurd (BitVec.eq_of_toNat_eq hx), fun _ => rfl, fun _ => rfl⟩
  · exact ⟨fun _ => rfl, .inr ⟨BitVec.eq_of_toNat_eq hx, rfl⟩, fun _ => rfl, fun _ => rfl, fun _ => rfl⟩
  · obtain ⟨m, g⟩ := oamDma_shape v (s.setIo 0x46 v)
    rw [g]
    exact .of_mem x s m
  · refine ⟨fun _ => rfl, .inl rfl, fun _ => rfl, fun out => ?_, fun _ => rfl⟩
    simp only [isSoundOffset, Bool.and_eq_true, decide_eq_true_eq] at h
    omega

theorem writeByte_storeFrame (s : State) (x : Word) (v : Byte) : StoreFrame x s (s.writeByte x v) := by
  obtain ⟨hx, h⟩ | ⟨-, r, i, -, -, -, h⟩ | ⟨-, -, h⟩ | ⟨-, -, h⟩ | ⟨hx, -, h⟩ | ⟨hx, h⟩ := writeByte_cases s x v <;> rw [h]
  · exact ⟨fun le => absurd hx (by omega), .inl rfl, fun _ => rfl, fun _ => rfl, fun _ => rfl⟩
  · exact .of_mem x s _
  · exact .of_mem x s _
  · exact .of_mem x s s.mem
  · exact writeIo_storeFrame s v (by omega)
  · exact ⟨fun _ => rfl, .inl rfl, fun _ => rfl, fun _ => rfl, absurd (BitVec.eq_of_toNat_eq hx)⟩

theorem writeByte_timed (s : State) (x : Word) (v : Byte) : (s.writeByte x v).timed = s.timed := by
  obtain ⟨_, _, _, _, _, _, h⟩ := writeByte_shape s x v
  rw [h]
  rfl

section
variable {p : Footprint} (s : State)

theorem changesOnly_writeByte {x : Word} (v : Byte) (h : x ∈ p.stores) : ChangesOnly p s (s.writeByte x v) where
  reg r _ := by cases r <;> simp [State.reg]
  sp _ := by simp
  pc _ := by simp
  ime _ := by simp
  imeDelay _ := by simp
  halted _ := by simp
  illegalLog _ := by simp
  timed := writeByte_timed s x v
  memory := writeByte_keepsDisplay s x v
  bank out := (writeByte_storeFrame s x v).bank (out x h)
  divAcc := (writeByte_storeFrame s x v).divAcc.imp id fun ⟨e, z⟩ => ⟨e ▸ h, z⟩
  serialTrace out := (writeByte_storeFrame s x v).serialTrace fun e => out (e ▸ h)
  apu out := (writeByte_storeFrame s x v).apu (out x h)
  ie out := (writeByte_storeFrame s x v).ie fun e => out (e ▸ h)

theorem changesOnly_writeWord {x : Word} (v : Word) (h : x ∈ p.stores) (h1 : x + 1 ∈ p.stores) :
    ChangesOnly p s (s.writeWord x v) :=
  (changesOnly_writeByte s _ h).trans (changesOnly_writeByte _ _ h1)

theorem changesOnly_push16 (v : Word) (hsp : p.sp = true) (h : pushStores s ⊆ p.stores) : ChangesOnly p s (s.push16 v) := by
  have high : s.sp - 1 ∈ p.stores := h List.mem_cons_self
  have low : s.sp - 2 ∈ p.stores := h (List.mem_cons_of_mem _ List.mem_cons_self)
  rw [State.push16]
  refine (changesOnly_setSp s (s.sp - 1) hsp).trans ((changesOnly_writeByte _ _ high).trans
    ((changesOnly_setSp _ _ hsp).trans (changesOnly_writeByte _ _ ?_)))
  simpa [BitVec.sub_sub] using low

/-! The operands. -/

theorem changesOnly_setOperand {o : Operand8} (v : Byte) (hr : operandRegs o ⊆ p.regs) (hs : operandStores s o ⊆ p.stores) :
    ChangesOnly p s (s.setOperand o v) := by
  cases o with
  | reg r => exact changesOnly_setReg s v (hr List.mem_cons_self)
  | indHL => exact changesOnly_writeByte s v (hs List.mem_cons_self)

theorem changesOnly_setReg16 {r : Reg16} (v : Word) (hr : pairRegs r ⊆ p.regs) (hsp : r = .sp → p.sp = true) :
    ChangesOnly p s (s.setReg16 r v) := by
  cases r with
  | bc => exact changesOnly_setRegs s (highByte v) (lowByte v) hr
  | de => exact changesOnly_setRegs s (highByte v) (lowByte v) hr
  | hl => exact changesOnly_setHL s v hr
  | sp => exact changesOnly_setSp s v (hsp rfl)

theorem changesOnly_setStackReg {r : StackReg} (v : Word) (hr : stackRegs r ⊆ p.regs) :
    ChangesOnly p s (s.setStackReg r v) := by
  cases r with
  | bc => exact changesOnly_setReg16 s (r := .bc) v hr nofun
  | de => exact changesOnly_setReg16 s (r := .de) v hr nofun
  | hl => exact changesOnly_setReg16 s (r := .hl) v hr nofun
  | af => exact (changesOnly_setReg s (r := .a) (highByte v) (hr (by decide))).trans (changesOnly_setFlags _ _)

theorem changesOnly_aluOnA (op : AluOp) (v : Byte) (h : op ≠ .cp → .a ∈ p.regs) : ChangesOnly p s (aluOnA op v s) := by
  by_cases hcp : op = .cp
  · subst hcp
    exact changesOnly_setFlags s _
  · exact (changesOnly_setReg s (r := .a) _ (h hcp)).trans (changesOnly_setFlags _ _)

theorem changesOnly_callTo (v : Word) (hsp : p.sp = true) (hpc : p.pc = true) (h : pushStores s ⊆ p.stores) :
    ChangesOnly p s (callTo v s) :=
  (changesOnly_push16 s s.pc hsp h).trans (changesOnly_jumpTo _ v hpc)

theorem changesOnly_returnTo (hsp : p.sp = true) (hpc : p.pc = true) : ChangesOnly p s (returnTo s) :=
  (changesOnly_setSp s (s.sp + 2) hsp).trans (changesOnly_jumpTo _ _ hpc)

end

/-! Every instruction keeps to its footprint. -/

/-- The effect of a form keeps to the form's footprint. -/
theorem effect_changesOnly (f : Form) (origin : Word) (t : State) : ChangesOnly (f.footprint t) t (f.effect origin t) := by
  cases f with
  | nop | stop => exact .refl _ t
  | halt =>
    show ChangesOnly { pc := true, halts := true } t (if _ then _ else _)
    split
    · exact { ChangesOnly.refl _ t with halted := nofun }
    · exact { ChangesOnly.refl _ t with halted := nofun, pc := nofun }
  | di => exact { ChangesOnly.refl _ t with ime := nofun, imeDelay := nofun }
  | ei => exact changesOnly_ite t fun _ => { ChangesOnly.refl _ t with imeDelay := nofun }
  | reti => exact { changesOnly_returnTo t rfl rfl with ime := nofun }
  | illegal k => exact { ChangesOnly.refl _ t with illegalLog := nofun }
  | daa | cpl | rotateA => exact (changesOnly_setReg t (r := .a) _ List.mem_cons_self).trans (changesOnly_setFlags _ _)
  | scf | ccf | testBit => exact changesOnly_setFlags t _
  | alu op o => exact changesOnly_aluOnA t op _ fun h => by simp [Form.footprint, h]
  | aluImm op n => exact changesOnly_aluOnA t op n fun h => by simp [Form.footprint, h]
  | inc o | dec o | rotate op o =>
    exact (changesOnly_setFlags t _).trans (changesOnly_setOperand _ _ (List.Subset.refl _) (List.Subset.refl _))
  | resetBit b o | setBit b o => exact changesOnly_setOperand t _ (List.Subset.refl _) (List.Subset.refl _)
  | load dst _ | loadIndHL dst | loadImm dst _ => exact changesOnly_setReg t _ List.mem_cons_self
  | storeIndHL _ | storeImm _ | storeA _ => exact changesOnly_writeByte t _ List.mem_cons_self
  | loadA m => exact changesOnly_setReg t (r := .a) _ List.mem_cons_self
  | loadAMoveHL up =>
    exact (changesOnly_setReg t (r := .a) _ List.mem_cons_self).trans (changesOnly_setHL _ _ (List.subset_cons_self _ _))
  | storeAMoveHL up =>
    exact (changesOnly_writeByte t _ List.mem_cons_self).trans (changesOnly_setHL _ _ (List.Subset.refl _))
  | loadImm16 p _ | incReg16 p | decReg16 p =>
    exact changesOnly_setReg16 t _ (List.Subset.refl _) fun h => by simp [Form.footprint, h]
  | storeSP addr => exact changesOnly_writeWord t _ List.mem_cons_self (List.mem_cons_of_mem _ List.mem_cons_self)
  | push p => exact changesOnly_push16 t _ rfl (List.Subset.refl _)
  | pop p => exact (changesOnly_setSp t _ rfl).trans (changesOnly_setStackReg _ _ (List.Subset.refl _))
  | loadSPHL => exact changesOnly_setSp t _ rfl
  | loadHLSP e => exact (changesOnly_setFlags t _).trans (changesOnly_setHL _ _ (List.Subset.refl _))
  | addHL p => exact (changesOnly_setFlags t _).trans (changesOnly_setHL _ _ (List.Subset.refl _))
  | addSP e => exact (changesOnly_setSp t (addSigned t.sp e).1 rfl).trans (changesOnly_setFlags _ _)
  | jump | jumpRel | jumpHL => exact changesOnly_jumpTo t _ rfl
  | jumpIf | jumpRelIf => exact changesOnly_ite t fun h => changesOnly_jumpTo t _ h
  | call addr | restart b => exact changesOnly_callTo t _ rfl rfl (List.Subset.refl _)
  | callIf cc addr =>
    exact changesOnly_ite t fun h => changesOnly_callTo t _ h h (by simp [Form.footprint, h])
  | ret => exact changesOnly_returnTo t rfl rfl
  | retIf cc => exact changesOnly_ite t fun h => changesOnly_returnTo t h h

/-! What the footprint says of the control state. -/

theorem footprint_ime {f : Form} {t : State} (h : (f.footprint t).ime = true) : f = .di ∨ f = .reti := by
  cases f with
  | di => exact .inl rfl
  | reti => exact .inr rfl
  | _ => exact absurd h Bool.false_ne_true

theorem footprint_imeDelay {f : Form} {t : State} (h : (f.footprint t).imeDelay = true) : f = .di ∨ f = .ei := by
  cases f with
  | di => exact .inl rfl
  | ei => exact .inr rfl
  | _ => exact absurd h Bool.false_ne_true

theorem footprint_halts {f : Form} {t : State} (h : (f.footprint t).halts = true) : f = .halt := by
  cases f with
  | halt => rfl
  | _ => exact absurd h Bool.false_ne_true

theorem footprint_logs {f : Form} {t : State} (h : (f.footprint t).logs = true) : ∃ k, f = .illegal k := by
  cases f with
  | illegal k => exact ⟨k, rfl⟩
  | _ => exact absurd h Bool.false_ne_true

/-- A fetch changes no register that the footprint names, so it may be read off before the fetch. -/
theorem footprint_fetched (f : Form) (s : State) (k : Nat) : f.footprint (s.fetched k) = f.footprint s := by
  cases f with
  | storeA m => cases m <;> rfl
  | inc o | dec o | rotate _ o | resetBit _ o | setBit _ o => cases o <;> rfl
  | _ => rfl

@[simp] theorem State.reg_fetched (s : State) (k : Nat) (r : Reg8) : (s.fetched k).reg r = s.reg r := by cases r <;> rfl

/-- No instruction reports more than 24 cycles (R131, R132). -/
theorem cycles_le (f : Form) (flags : Flags) : f.cycles flags ≤ 24 := by
  cases f with
  | loadA m | storeA m => cases m <;> simp [Form.cycles, AddrForm.cycles]
  | inc o | dec o | testBit _ o | alu _ o | rotate _ o | resetBit _ o | setBit _ o => cases o <;> simp [Form.cycles]
  | jumpIf cc _ | jumpRelIf cc _ | callIf cc _ | retIf cc =>
    simp only [Form.cycles]
    split <;> decide
  | _ => simp [Form.cycles]

/-- What one instruction can do: it has a form, and after its fetch it keeps to the form's footprint. -/
theorem exec_changesOnly {i : Instr} {s t : State} (h : WellFormed i) (hx : exec i s = .next t) :
    ∃ f : Form, f.instr = i ∧ t.cycles ≤ 24 ∧ ChangesOnly (f.footprint s) (s.fetched ((encode i).length - 1)) t := by
  obtain ⟨f, rfl⟩ := exists_form h
  rw [exec_instr] at hx
  cases hx
  refine ⟨f, rfl, cycles_le f s.f, ?_⟩
  rw [length_encode_instr, Nat.add_sub_cancel, ← footprint_fetched f s f.fetches]
  exact (effect_changesOnly f s.pc _).trans (changesOnly_reports _ _)

/-- Settles O30: an instruction keeps to the footprint of its form, which the tables give. -/
theorem registersChangeOnlyAsDestinations : Obligations.RegistersChangeOnlyAsDestinations := by
  intro i s t h hx
  obtain ⟨f, rfl, -, keeps⟩ := exec_changesOnly h hx
  have table := footprint_tabulated f s
  refine ⟨fun r hr => ?_, fun hsp => ?_, fun straight halts => ?_⟩
  · rw [keeps.reg r (table.regs ▸ hr), State.reg_fetched]
  · exact keeps.sp (table.sp.symm.trans hsp)
  · have stays : (f.footprint s).pc = false := by
      rw [← table.pc halts]
      obtain e | e := straight <;> simp [e]
    exact keeps.pc stays

/-- Settles O32: only the forms of the named instructions have their control state in their footprint. -/
theorem controlStateChangesOnlyByItsInstructions : Obligations.ControlStateChangesOnlyByItsInstructions := by
  intro i s t h hx
  obtain ⟨f, rfl, -, keeps⟩ := exec_changesOnly h hx
  have timed : t.timed = s.timed := keeps.timed
  simp only [State.timed, Prod.mk.injEq] at timed
  obtain ⟨clock, timaAcc, mode, lineCycles, frameBuffer, framesReady, buttons, buttonInputs⟩ := timed
  refine ⟨fun di reti => ?_, fun di ei => ?_, fun halt => ?_, clock, timaAcc, mode, lineCycles, frameBuffer, framesReady,
    buttons, buttonInputs⟩
  · refine keeps.ime (Bool.eq_false_iff.mpr fun e => ?_)
    obtain rfl | rfl := footprint_ime e
    · exact di rfl
    · exact reti rfl
  · refine keeps.imeDelay (Bool.eq_false_iff.mpr fun e => ?_)
    obtain rfl | rfl := footprint_imeDelay e
    · exact di rfl
    · exact ei rfl
  · refine keeps.halted (Bool.eq_false_iff.mpr fun e => ?_)
    obtain rfl := footprint_halts e
    exact halt rfl

/-- Settles O33: the footprint's stores are those of the table, and each device changes only by a store to its addresses. -/
theorem deviceStateChangesOnlyByItsStores : Obligations.DeviceStateChangesOnlyByItsStores := by
  intro i s t h hx
  obtain ⟨f, rfl, -, keeps⟩ := exec_changesOnly h hx
  rw [(footprint_tabulated f s).stores]
  refine ⟨keeps.bank, fun out => keeps.divAcc.resolve_right fun e => out e.1, keeps.serialTrace, keeps.apu, keeps.ie,
    fun legal => keeps.illegalLog (Bool.eq_false_iff.mpr fun e => ?_)⟩
  obtain ⟨k, rfl⟩ := footprint_logs e
  exact legal _ (List.get_mem Instr.illegals k) rfl

/-- Settles O10: each equation is the definition's own but the last, where a word is put together from its two bytes. -/
theorem pairsAreViewsOfTheirHalves : Obligations.PairsAreViewsOfTheirHalves := by
  refine fun s r q v w => ⟨s.reg_setReg r q v, rfl, rfl, rfl, rfl, rfl, rfl, rfl, rfl, fun p => ?_⟩
  cases p with
  | bc | de | hl => exact joinBytes_high_low w
  | sp => rfl

end Sys2Proof.Machine
end

section
/-! PROOFS. Every step keeps the invariant: the instruction, the devices and the interrupt check each do. -/

namespace Sys2Proof.Machine

/-! The instruction. -/

/-! The bits of STAT that a store keeps are the mode's and bit 7, among others. -/

theorem and_three_of_and_87 {x y : Byte} (h : x &&& 0x87 = y &&& 0x87) : x &&& 0x03 = y &&& 0x03 := by
  have split (z : Byte) : z &&& 0x03 = (z &&& 0x87) &&& 0x03 := by rw [BitVec.and_assoc]; rfl
  rw [split x, split y, h]

theorem bit7_of_and_87 {x y : Byte} (h : x &&& 0x87 = y &&& 0x87) : x.getLsbD 7 = y.getLsbD 7 := by
  have split (z : Byte) : z.getLsbD 7 = (z &&& 0x87).getLsbD 7 := by simp
  rw [split x, split y, h]

/-- A change that keeps to a footprint keeps the invariant, but for the halt bug. -/
theorem Inv.of_changesOnly {p : Footprint} {s t : State} (hs : Inv s) (h : ChangesOnly p s t)
    (haltBug : t.halted = true → t.haltBug = false) : Inv t := by
  have timed : t.timed = s.timed := h.timed
  simp only [State.timed, Prod.mk.injEq] at timed
  obtain ⟨-, timaAcc, mode, lineCycles, frameBuffer, -, -, -⟩ := timed
  have stat : t.stat &&& 0x87 = s.stat &&& 0x87 := h.memory.stat
  have ly : t.ly = s.ly ∨ t.ly = 0 := h.memory.ly
  refine
    { memory := h.memory.canonical hs.memory
      statMode := by rw [mode, and_three_of_and_87 stat, hs.statMode]
      statTop := (bit7_of_and_87 stat).trans hs.statTop
      scanline := ?_
      drawnLine := ?_
      divider := ?_
      timer := timaAcc ▸ hs.timer
      notOverdue := by rw [mode, lineCycles]; exact hs.notOverdue
      frameLines := frameBuffer ▸ hs.frameLines
      framePixels := frameBuffer ▸ hs.framePixels
      haltBug := haltBug }
  · obtain e | e := ly <;> rw [e]
    · exact hs.scanline
    · decide
  · rw [mode]
    obtain e | e := ly <;> rw [e]
    · exact hs.drawnLine
    · exact fun _ => by decide
  · obtain e | ⟨-, e⟩ := h.divAcc <;> rw [e]
    · exact hs.divider
    · decide

theorem indexOfField_toNat (b : Index8) : indexOfField b.toNat = b := by cases b <;> rfl

/-- The field `y` of an opcode byte is the number of an index (R121, R126). -/
theorem exists_index_fieldY (op : Byte) : ∃ b : Index8, fieldY op = b.toNat := by
  have h : fieldY op < 8 := Nat.mod_lt _ (by decide)
  refine ⟨indexOfField (fieldY op), ?_⟩
  interval_cases fieldY op <;> rfl

/-- The second table's entry is the meaning of the entry's form (R287). -/
theorem secondTable_eq_exec (op : Byte) (s : State) : secondTable op s = exec (secondForm op).instr s := by
  obtain ⟨b, hb⟩ := exists_index_fieldY op
  rw [secondTable, secondForm, hb, indexOfField_toNat]
  generalize fieldX op = x
  match x with
  | 0 => exact (exec_instr (.rotate _ _) s).symm
  | 1 => exact (exec_instr (.testBit b _) s).symm
  | 2 => exact (exec_instr (.resetBit b _) s).symm
  | _ + 3 => exact (exec_instr (.setBit b _) s).symm

/-- The meaning of every instruction is that of a form, that of a bare 0xCB is the meaning of the byte after it (R287). -/
theorem exists_form_exec (i : Instr) (s : State) :
    ∃ f : Form, exec i s = done (f.cycles s.f) (f.effect s.pc (s.fetched f.fetches)) := by
  by_cases h : i = .prefixCB
  · subst h
    exact ⟨_, (secondTable_eq_exec _ s).trans (exec_instr _ s)⟩
  · obtain ⟨f, rfl⟩ := exists_form h
    exact ⟨f, exec_instr f s⟩

/-- `HALT` sets `Halted` or the halt bug, and nothing else sets either (R283). -/
theorem effect_haltBug (f : Form) (origin : Word) {t : State} (hh : t.halted = false) (hb : t.haltBug = false) :
    (f.effect origin t).halted = true → (f.effect origin t).haltBug = false := by
  intro h
  by_cases hf : f = .halt
  · subst hf
    simp only [Form.effect] at h ⊢
    split at h
    · exact absurd (h.symm.trans hh) (by decide)
    · rw [if_neg ‹_›]; exact hb
  · have keeps := (effect_changesOnly f origin t).halted (Bool.eq_false_iff.mpr fun e => hf (footprint_halts e))
    exact keeps.2.trans hb

/-- The processor's part of a step keeps the invariant and reports at most 24 cycles. -/
theorem cpuStep_inv {s t : State} (hs : Inv s) (h : cpuStep s = .next t) : Inv t ∧ t.cycles ≤ 24 := by
  unfold cpuStep at h
  split at h
  case isTrue =>
    cases h
    exact ⟨{ hs with }, show 4 ≤ 24 by decide⟩
  case isFalse hh =>
    obtain ⟨f, e⟩ := exists_form_exec (fetchInstr s) s
    cases e.symm.trans h
    have fetched : Inv (s.fetched f.fetches) := { hs with haltBug := fun _ => rfl }
    have kept : Inv (f.effect s.pc (s.fetched f.fetches)) := fetched.of_changesOnly (effect_changesOnly f s.pc _)
      (effect_haltBug f s.pc (Bool.eq_false_iff.mpr hh) rfl)
    exact ⟨{ kept with }, cycles_le f s.f⟩

/-! The timer and the joypad. -/

/-- A change of I/O registers other than STAT and LY keeps the invariant. -/
theorem Inv.of_sameBut {s : State} {mem : Memory} {offs : List Nat} (hs : Inv s) (h : s.mem.sameBut mem offs)
    (hstat : 0x41 ∉ offs) (hly : 0x44 ∉ offs) : Inv (s.withMem mem) := by
  have stat : (s.withMem mem).stat = s.stat := h.elsewhere _ _ (.inr hstat)
  have ly : (s.withMem mem).ly = s.ly := h.elsewhere _ _ (.inr hly)
  exact
    { hs with
      memory := h.canonical hs.memory
      statMode := by rw [stat]; exact hs.statMode
      statTop := by rw [stat]; exact hs.statTop
      scanline := by rw [ly]; exact hs.scanline
      drawnLine := by rw [ly]; exact hs.drawnLine }

theorem timaTicks_accs (n : Nat) (s : State) : (timaTicks n s).divAcc = s.divAcc ∧ (timaTicks n s).timaAcc = s.timaAcc := by
  induction n generalizing s with
  | zero => exact ⟨rfl, rfl⟩
  | succ n ih =>
    have tick : (timaTick s).divAcc = s.divAcc ∧ (timaTick s).timaAcc = s.timaAcc := by
      unfold timaTick
      split <;> exact ⟨rfl, rfl⟩
    exact ⟨(ih _).1.trans tick.1, (ih _).2.trans tick.2⟩

theorem timerPeriod_bounds (tac : Byte) : 0 < timerPeriod tac ∧ timerPeriod tac ≤ 1024 := by
  unfold timerPeriod
  split <;> decide

/-- The accumulators stay below their periods (R24, R347). -/
theorem timerStep_accs (c : Nat) {s : State} (h : s.timaAcc < 1024) :
    (timerStep c s).divAcc < 256 ∧ (timerStep c s).timaAcc < 1024 := by
  have div : (dividerStep c s).divAcc < 256 := Nat.mod_lt _ (by decide)
  simp only [timerStep, counterStep]
  split
  · obtain ⟨e, e'⟩ := timaTicks_accs (((dividerStep c s).timaAcc + c) / timerPeriod (dividerStep c s).tac)
      { dividerStep c s with timaAcc := ((dividerStep c s).timaAcc + c) % timerPeriod (dividerStep c s).tac }
    obtain ⟨pos, le⟩ := timerPeriod_bounds (dividerStep c s).tac
    rw [e, e']
    exact ⟨div, (Nat.mod_lt _ pos).trans_le le⟩
  · exact ⟨div, h⟩

theorem timerStep_inv (c : Nat) {s : State} (hs : Inv s) : Inv (timerStep c s) := by
  obtain ⟨divider, timer⟩ := timerStep_accs c hs.timer
  obtain ⟨mem, divAcc, timaAcc, hm, e⟩ := timerStep_shape c s
  rw [e] at divider timer ⊢
  exact { hs.of_sameBut hm (by decide) (by decide) with divider := divider, timer := timer }

theorem joypadStep_inv {s : State} (hs : Inv s) : Inv (joypadStep s) := by
  obtain ⟨mem, hm, e⟩ := joypadStep_shape s
  rw [e]
  exact hs.of_sameBut hm (by decide) (by decide)

/-! The picture unit. -/

/-- The part of the invariant that no transition of the sequencer breaks in between (R25, R40). -/
structure PictureOk (s : State) : Prop where
  memory : s.mem.wf
  statMode : s.stat &&& 0x03 = s.mode.bits
  statTop : s.stat.getLsbD 7 = true
  frameLines : s.frameBuffer.length = 144
  framePixels : ∀ line ∈ s.frameBuffer, line.length = 160

/-- `LY` is a scanline, and a drawn one outside V-Blank (R25, R363). -/
structure OnScreen (s : State) : Prop where
  scanline : s.ly.toNat ≤ 153
  drawnLine : s.mode ≠ .vBlank → s.ly.toNat ≤ 143

/-! What the sequencer's operations leave: `LY`, the mode, the cycles spent in it. -/

section
variable (s : State)

@[simp] theorem State.setIo_ly (off : Nat) (v : Byte) : (s.setIo off v).ly = if 0x44 = off then v else s.ly :=
  State.ioByte_setIo s off 0x44 v
@[simp] theorem State.setIo_stat (off : Nat) (v : Byte) : (s.setIo off v).stat = if 0x41 = off then v else s.stat :=
  State.ioByte_setIo s off 0x41 v

@[simp] theorem setMode_ly (m : PpuMode) : (setMode m s).ly = s.ly := State.setIo_ly s 0x41 _
@[simp] theorem setMode_stat (m : PpuMode) : (setMode m s).stat = (s.stat &&& 0xFC) ||| m.bits := State.setIo_stat s 0x41 _

@[simp] theorem raiseIrq_ly (i : Nat) : (raiseIrq i s).ly = s.ly := State.setIo_ly s 0x0F _
@[simp] theorem raiseIrq_stat (i : Nat) : (raiseIrq i s).stat = s.stat := State.setIo_stat s 0x0F _

@[simp] theorem raiseStat_ly (bit : Nat) : (raiseStat bit s).ly = s.ly := by
  unfold raiseStat; split <;> simp
@[simp] theorem raiseStat_mode (bit : Nat) : (raiseStat bit s).mode = s.mode := by
  unfold raiseStat; split <;> rfl
@[simp] theorem raiseStat_lineCycles (bit : Nat) : (raiseStat bit s).lineCycles = s.lineCycles := by
  unfold raiseStat; split <;> rfl

@[simp] theorem coincidenceCheck_ly : (coincidenceCheck s).ly = s.ly := by
  unfold coincidenceCheck; split <;> simp
@[simp] theorem coincidenceCheck_mode : (coincidenceCheck s).mode = s.mode := by
  unfold coincidenceCheck; split <;> simp
@[simp] theorem coincidenceCheck_lineCycles : (coincidenceCheck s).lineCycles = s.lineCycles := by
  unfold coincidenceCheck; split <;> simp

@[simp] theorem enterOamScan_ly : (enterOamScan s).ly = s.ly := by simp [enterOamScan]
@[simp] theorem enterOamScan_mode : (enterOamScan s).mode = .oamScan := by simp [enterOamScan]
@[simp] theorem enterOamScan_lineCycles : (enterOamScan s).lineCycles = s.lineCycles := by simp [enterOamScan]

@[simp] theorem renderLine_ly (n : Nat) : (renderLine n s).ly = s.ly := rfl
@[simp] theorem renderLine_mode (n : Nat) : (renderLine n s).mode = s.mode := rfl
@[simp] theorem renderLine_lineCycles (n : Nat) : (renderLine n s).lineCycles = s.lineCycles := rfl

@[simp] theorem frameReady_ly : (frameReady s).ly = s.ly := rfl
@[simp] theorem frameReady_mode : (frameReady s).mode = s.mode := rfl
@[simp] theorem frameReady_lineCycles : (frameReady s).lineCycles = s.lineCycles := rfl

@[simp] theorem enterHBlank_ly : (enterHBlank s).ly = s.ly := by simp [enterHBlank]
@[simp] theorem enterHBlank_mode : (enterHBlank s).mode = .hBlank := by simp [enterHBlank]
@[simp] theorem enterHBlank_lineCycles : (enterHBlank s).lineCycles = s.lineCycles := by simp [enterHBlank]

@[simp] theorem enterVBlank_ly : (enterVBlank s).ly = s.ly := by simp [enterVBlank]
@[simp] theorem enterVBlank_mode : (enterVBlank s).mode = .vBlank := by simp [enterVBlank]
@[simp] theorem enterVBlank_lineCycles : (enterVBlank s).lineCycles = s.lineCycles := by simp [enterVBlank]

end

/-- `SetMode` writes the mode's bits and no others (R376). -/
theorem statMode_setMode (stat : Byte) (m : PpuMode) : ((stat &&& 0xFC) ||| m.bits) &&& 0x03 = m.bits := by
  ext i hi
  cases m <;> simp only [PpuMode.bits] <;> interval_cases i <;> simp

theorem low_or_bit2 (stat : Byte) : (stat ||| 0x04) &&& 0x03 = stat &&& 0x03 := by
  ext i hi
  interval_cases i <;> simp

section
variable {s : State}

theorem PictureOk.setIo (h : PictureOk s) {off : Nat} (v : Byte) (ho : off < 128) (hs : 0x41 ≠ off) :
    PictureOk (s.setIo off v) :=
  { h with
    memory := s.setIo_wf v h.memory ho
    statMode := by rw [State.setIo_stat, if_neg hs]; exact h.statMode
    statTop := by rw [State.setIo_stat, if_neg hs]; exact h.statTop }

theorem PictureOk.setMode (h : PictureOk s) (m : PpuMode) : PictureOk (setMode m s) :=
  { h with
    memory := s.setIo_wf _ h.memory (by decide)
    statMode := by rw [setMode_stat]; exact statMode_setMode s.stat m
    statTop := by
      have top := h.statTop
      rw [setMode_stat]
      cases m <;> simp [top] }

theorem PictureOk.raiseIrq (h : PictureOk s) (i : Nat) : PictureOk (raiseIrq i s) := h.setIo _ (by decide) (by decide)

theorem PictureOk.raiseStat (h : PictureOk s) (bit : Nat) : PictureOk (raiseStat bit s) := by
  unfold Machine.raiseStat
  split
  · exact h.raiseIrq 1
  · exact h

/-- The coincidence check writes bit 2 of STAT alone (R384). -/
theorem PictureOk.coincidenceCheck (h : PictureOk s) : PictureOk (coincidenceCheck s) := by
  have written (v : Byte) (low : v &&& 0x03 = s.stat &&& 0x03) (top : v.getLsbD 7 = s.stat.getLsbD 7) :
      PictureOk (s.setIo 0x41 v) :=
    { h with
      memory := s.setIo_wf v h.memory (by decide)
      statMode := by rw [State.setIo_stat, if_pos rfl, low]; exact h.statMode
      statTop := by rw [State.setIo_stat, if_pos rfl, top]; exact h.statTop }
  unfold Machine.coincidenceCheck
  split
  · exact (written _ (low_or_bit2 s.stat) (by simp)).raiseStat 6
  · exact written _ (by rw [BitVec.and_assoc]; rfl) (by simp)

theorem PictureOk.renderLine (h : PictureOk s) (ly : Nat) : PictureOk (renderLine ly s) :=
  { h with
    frameLines := (List.length_set ..).trans h.frameLines
    framePixels := fun line hl => by
      obtain hl | rfl := List.mem_or_eq_of_mem_set hl
      · exact h.framePixels line hl
      · simp [scanline] }

theorem PictureOk.frameReady (h : PictureOk s) : PictureOk (frameReady s) := { h with }

theorem PictureOk.enterOamScan (h : PictureOk s) : PictureOk (enterOamScan s) := (h.setMode _).raiseStat 5

theorem PictureOk.enterHBlank (h : PictureOk s) : PictureOk (enterHBlank s) := ((h.setMode _).renderLine _).raiseStat 3

theorem PictureOk.enterVBlank (h : PictureOk s) : PictureOk (enterVBlank s) :=
  (((h.setMode _).raiseIrq 0).frameReady).raiseStat 4

theorem PictureOk.leaveMode (h : PictureOk s) : PictureOk (leaveMode s) := by
  have next (v : Byte) : PictureOk (s.setIo 0x44 v) := h.setIo v (by decide) (by decide)
  unfold Machine.leaveMode
  split
  · exact h.setMode _
  · exact h.enterHBlank
  · simp only [endHBlank]
    split
    · exact (next _).enterVBlank.coincidenceCheck
    · exact (next _).enterOamScan.coincidenceCheck
  · simp only [endVBlankLine]
    split
    · exact ((next _).setIo 0 (by decide) (by decide)).enterOamScan.coincidenceCheck
    · exact (next _).coincidenceCheck

/-- The sequencer leaves a line on the screen for a line on the screen: V-Blank begins at line 144, and the frame begins again
after line 153 (R375, R378, R379). -/
theorem OnScreen.leaveMode (h : OnScreen s) : OnScreen (leaveMode s) := by
  obtain ⟨scanline, drawn⟩ := h
  have succ : (s.ly + 1).toNat = s.ly.toNat + 1 := by
    rw [BitVec.toNat_add, Nat.mod_eq_of_lt] <;> simp; omega
  unfold Machine.leaveMode
  split <;> rename_i mode
  case h_1 => exact ⟨by simpa, fun _ => by simpa using drawn (by simp [mode])⟩
  case h_2 => exact ⟨by simpa, fun _ => by simpa using drawn (by simp [mode])⟩
  case h_3 =>
    have line := drawn (by simp [mode])
    simp only [endHBlank, State.setIo_ly, if_true]
    split
    case isTrue => exact ⟨by simp; omega, fun out => absurd (by simp) out⟩
    case isFalse ne =>
      have ne' : s.ly.toNat + 1 ≠ 144 := fun e => ne (BitVec.eq_of_toNat_eq (succ.trans e))
      exact ⟨by simp; omega, fun _ => by simp; omega⟩
  case h_4 =>
    simp only [endVBlankLine, State.setIo_ly, if_true]
    split
    case isTrue => exact ⟨by simp, fun _ => by simp⟩
    case isFalse le => exact ⟨by simpa using le, fun out => absurd (by simp [mode]) out⟩

theorem leaveMode_lineCycles (s : State) : (leaveMode s).lineCycles = s.lineCycles := by
  unfold leaveMode
  split
  · rfl
  · simp
  · simp only [endHBlank]
    split <;> simp
  · simp only [endVBlankLine]
    split <;> simp

end

theorem duration_ge (m : PpuMode) : 80 ≤ m.duration := by cases m <;> decide

theorem Inv.picture {s : State} (hs : Inv s) : PictureOk s :=
  ⟨hs.memory, hs.statMode, hs.statTop, hs.frameLines, hs.framePixels⟩

theorem Inv.onScreen {s : State} (hs : Inv s) : OnScreen s := ⟨hs.scanline, hs.drawnLine⟩

/-- What the picture unit has to show for the invariant: the rest is not in its reach. -/
theorem Inv.of_ppuReaches {s t : State} (hs : Inv s) (reaches : ppuReaches s t) (picture : PictureOk t) (onScreen : OnScreen t)
    (notOverdue : t.lineCycles < t.mode.duration) : Inv t := by
  obtain ⟨mem, mode, lineCycles, frame, ready, -, rfl⟩ := reaches
  exact
    { hs with
      memory := picture.memory
      statMode := picture.statMode
      statTop := picture.statTop
      frameLines := picture.frameLines
      framePixels := picture.framePixels
      scanline := onScreen.scanline
      drawnLine := onScreen.drawnLine
      notOverdue := notOverdue }

/-- The sequencer leaves a mode in order, with few enough cycles carried over that the next one is not overdue (R375). -/
theorem leaveMode_inv {s : State} (hs : Inv s) {carried : Nat} (h : carried < 80) :
    Inv (leaveMode { s with lineCycles := carried }) := by
  have moved : ppuReaches s { s with lineCycles := carried } :=
    ⟨s.mem, s.mode, carried, s.frameBuffer, s.framesReady, Memory.sameBut_refl _ _, rfl⟩
  refine hs.of_ppuReaches (ppuReaches_trans moved (leaveMode_ppu _)) (PictureOk.leaveMode { hs.picture with })
    (OnScreen.leaveMode { hs.onScreen with }) ?_
  rw [leaveMode_lineCycles]
  exact h.trans_le (duration_ge _)

/-- While the LCD is off the sequencer stands at the start of line 0 (R377). -/
theorem frozenPpu_inv {s : State} (hs : Inv s) : Inv (frozenPpu s) := by
  have cleared : ppuReaches s { s.setIo 0x44 0 with lineCycles := 0 } :=
    ⟨_, s.mode, 0, s.frameBuffer, s.framesReady, s.setIo_sameBut 0 (off := 0x44) (by decide) (by decide), rfl⟩
  have picture : PictureOk { s.setIo 0x44 0 with lineCycles := 0 } :=
    { hs.picture.setIo 0 (off := 0x44) (by decide) (by decide) with }
  have ly : (frozenPpu s).ly = 0 := (setMode_ly _ _).trans (State.setIo_ly s 0x44 0)
  refine hs.of_ppuReaches (ppuReaches_trans cleared (setMode_ppu .hBlank _)) (picture.setMode _) ⟨?_, fun _ => ?_⟩
    (show 0 < 204 by decide)
  · exact ly ▸ by decide
  · exact ly ▸ by decide

/-- The picture unit keeps the invariant through a call of as many cycles as a step can take (R375). -/
theorem ppuStep_inv {c : Nat} (hc : c ≤ 24) {s : State} (hs : Inv s) : Inv (ppuStep c s) := by
  have early := hs.notOverdue
  simp only [ppuStep]
  split
  case isFalse => exact frozenPpu_inv hs
  case isTrue =>
    split
    case isTrue => exact leaveMode_inv hs (by omega)
    case isFalse within => exact { hs with notOverdue := Nat.not_le.mp within }

/-! A whole step. -/

theorem apuStep_inv (c : Nat) {s : State} (hs : Inv s) : Inv (apuStep c s) := { hs with }

theorem advanceDevices_inv {c : Nat} (hc : c ≤ 24) {s : State} (hs : Inv s) : Inv (advanceDevices c s) :=
  apuStep_inv c (joypadStep_inv (ppuStep_inv hc (timerStep_inv c hs)))

theorem takeInput_inv {s : State} (hs : Inv s) : Inv (takeInput s) := by
  unfold takeInput
  split
  · exact hs
  · exact { hs with }

theorem imeTick_inv {s : State} (hs : Inv s) : Inv (imeTick s) := by
  unfold imeTick
  split
  · exact { hs with }
  · split
    · exact { hs with }
    · exact hs

theorem wake_inv {s : State} (hs : Inv s) : Inv (wake s) := by
  unfold wake
  split
  · exact { hs with haltBug := nofun }
  · exact hs

/-- The invariant does not speak of `PC`, `IME` and the clock. -/
theorem Inv.setPcIme {s : State} (hs : Inv s) (pc : Word) (ime : Bool) : Inv { s with pc := pc, ime := ime } := { hs with }

theorem Inv.setClock {s : State} (hs : Inv s) (clock : Nat) : Inv { s with clock := clock } := { hs with }

/-- A dispatch pushes `PC` through the router and clears a request (R311). -/
theorem takeInterrupt_inv (i : Nat) {s : State} (hs : Inv s) : Inv (takeInterrupt i s) := by
  have pushed : Inv (s.push16 s.pc) :=
    hs.of_changesOnly (p := { sp := true, stores := pushStores s }) (changesOnly_push16 s s.pc rfl (List.Subset.refl _))
      (by simpa using hs.haltBug)
  have entered := pushed.setPcIme (irqVector i) false
  rw [takeInterrupt]
  exact entered.of_sameBut (State.setIo_sameBut _ _ (off := 0x0F) (offs := [0x0F]) (by decide) (by decide)) (by decide)
    (by decide)

theorem interruptCheck_inv {s : State} (hs : Inv s) : Inv (interruptCheck s).1 ∧ (interruptCheck s).2 ≤ 24 := by
  have woken := wake_inv hs
  simp only [interruptCheck]
  split
  · exact ⟨hs, Nat.zero_le _⟩
  · split
    · split
      · exact ⟨takeInterrupt_inv _ woken, show 20 ≤ 24 by decide⟩
      · exact ⟨woken, Nat.zero_le _⟩
    · exact ⟨woken, Nat.zero_le _⟩

theorem checkInterrupts_inv (c : Nat) {s : State} (hs : Inv s) : Inv (checkInterrupts c s) := by
  obtain ⟨checked, hd⟩ := interruptCheck_inv hs
  simp only [checkInterrupts]
  split
  · exact checked.setClock _
  · exact (advanceDevices_inv hd checked).setClock _

theorem catchUp_inv {s : State} (hs : Inv s) (hc : s.cycles ≤ 24) : Inv (catchUp s) :=
  checkInterrupts_inv _ (advanceDevices_inv hc (imeTick_inv hs))

/-- Settles O60: the instruction keeps the invariant, and so does all that follows it in the step. -/
theorem everyStepKeepsTheInvariant : Obligations.EveryStepKeepsTheInvariant := by
  intro s t hs h
  unfold step at h
  split at h
  case h_1 u e =>
    cases h
    obtain ⟨kept, hc⟩ := cpuStep_inv (takeInput_inv hs) e
    exact catchUp_inv kept hc
  case h_2 => cases h
  case h_3 => cases h

/-! Reset. -/

/-- The reset state over a canonical memory with nothing listed but an image (R450 to R454). -/
theorem resetWith_inv {mem : Memory} {bank : BankState} (rom : mem.regionWf .rom) (blank : ∀ r, r ≠ .rom → mem.cells r = []) :
    Inv (State.resetWith mem bank) := by
  have canonical : mem.wf := (Memory.wf_iff mem).mpr fun r => by
    by_cases hr : r = .rom
    · exact hr ▸ rom
    · rw [Memory.regionWf, blank r hr]
      exact ⟨.nil, nofun⟩
  have reg (off : Nat) : (State.resetWith mem bank).ioByte off = ioResetByte off := by
    show readCells (unlisted .io) off (mem.cells .io) = _
    rw [blank .io (by decide)]
    rfl
  have stat : (State.resetWith mem bank).stat = 0x86 := reg 0x41
  have ly : (State.resetWith mem bank).ly = 0x00 := reg 0x44
  exact
    { memory := canonical
      statMode := by rw [stat]; rfl
      statTop := by rw [stat]; rfl
      scanline := by rw [ly]; decide
      drawnLine := fun _ => by rw [ly]; decide
      divider := show 0 < 256 by decide
      timer := show 0 < 1024 by decide
      notOverdue := show 0 < 80 by decide
      frameLines := List.length_replicate
      framePixels := fun line hl => by rw [List.eq_of_mem_replicate hl]; exact List.length_replicate
      haltBug := fun _ => rfl }

/-- A loaded cartridge starts in the reset state over its image. -/
theorem loadCartridge_inv {image : List Byte} {s : State} (h : loadCartridge image = .next s) : Inv s := by
  have cells := (cellsWf_imageCells image 0).1
  rw [Nat.zero_add] at cells
  unfold loadCartridge at h
  split at h
  · cases h
  · dsimp only at h
    split at h
    · cases h
    · cases h
      exact resetWith_inv cells fun r hr => by
        cases r
        case rom => exact absurd rfl hr
        all_goals rfl

/-- Settles O59: reset and loading both give the reset state over a memory with nothing listed but an image. -/
theorem resetMeetsTheInvariant : Obligations.ResetMeetsTheInvariant :=
  ⟨resetWith_inv ⟨.nil, nofun⟩ fun r _ => by cases r <;> rfl, fun _ _ => loadCartridge_inv⟩

end Sys2Proof.Machine
end

section
/-! PROOFS. The router by places. `placeOf` says once where an address leads (R51); `readByte_eq` and `writeByte_eq` give the
two halves of the router by it, so that a read after a store is a comparison of two places. -/

namespace Sys2Proof.Machine

/-! The table of R51. -/

/-- Where the router leads an address: to the image, to a byte of a region, to the window on external RAM, nowhere, or to IE. -/
inductive Place
  | rom
  | cell (r : Region) (i : Nat)
  | extRam
  | unusable
  | ie

/-- The table of R51. -/
def placeOf (n : Nat) : Place :=
  if n < 0x8000 then .rom
  else if n < 0xA000 then .cell .vram (n - 0x8000)
  else if n < 0xC000 then .extRam
  else if n < 0xD000 then .cell .wram0 (n - 0xC000)
  else if n < 0xE000 then .cell .wram1 (n - 0xD000)
  else if n < 0xF000 then .cell .wram0 (n - 0xE000)
  else if n < 0xFE00 then .cell .wram1 (n - 0xF000)
  else if n < 0xFEA0 then .cell .oam (n - 0xFE00)
  else if n < 0xFF00 then .unusable
  else if n < 0xFF80 then .cell .io (n - 0xFF00)
  else if n < 0xFFFF then .cell .hram (n - 0xFF80)
  else .ie

/-- A read of the address `n` that leads to a place. -/
def readPlace (s : State) (n : Nat) : Place → Byte
  | .rom => readRom s.mem s.bank n
  | .cell r i => s.mem.get r i
  | .extRam => readExternalRam s.mem s.bank n
  | .unusable => Config.sentinel
  | .ie => s.ie

/-- A write to the address `n` that leads to a place. -/
def writePlace (s : State) (n : Nat) (v : Byte) : Place → State
  | .rom => s.withBank (writeRomRegister s.bank n v)
  | .cell r i => if r = .io then writeIo s i v else s.store r i v
  | .extRam => s.withMem (writeExternalRam s.mem s.bank n v)
  | .unusable => s
  | .ie => s.setIe v

theorem State.readByte_eq (s : State) (x : Word) : s.readByte x = readPlace s x.toNat (placeOf x.toNat) := by
  rw [placeOf]
  simp only [apply_ite (readPlace s x.toNat)]
  rfl

theorem State.writeByte_eq (s : State) (x : Word) (v : Byte) :
    s.writeByte x v = writePlace s x.toNat v (placeOf x.toNat) := by
  rw [placeOf]
  simp only [apply_ite (writePlace s x.toNat v)]
  simp only [writePlace, reduceCtorEq, if_false, if_true]
  rfl

/-! The table read backwards. -/

/-- The address of the first byte of a region that has fixed addresses. -/
def Region.base : Region → Nat
  | .rom => 0x0000
  | .vram => 0x8000
  | .extRam => 0xA000
  | .wram0 => 0xC000
  | .wram1 => 0xD000
  | .oam => 0xFE00
  | .io => 0xFF00
  | .hram => 0xFF80

/-- Which addresses lead to a place. The bytes of a region lie at its base, one after the other, those of work RAM also in the
echo 0x2000 above (R58); the image and external RAM are not among the regions. -/
def Place.Spans (n : Nat) : Place → Prop
  | .rom => n < 0x8000
  | .cell r i =>
    0x8000 ≤ n ∧ (n < 0xA000 ∨ 0xC000 ≤ n) ∧ r ≠ .rom ∧ r ≠ .extRam ∧ (r = .io → i < 0x80) ∧
      ((n < 0xE000 ∨ 0xFE00 ≤ n) ∧ n = r.base + i ∨ 0xE000 ≤ n ∧ n < 0xFE00 ∧ n = r.base + i + 0x2000)
  | .extRam => 0xA000 ≤ n ∧ n < 0xC000
  | .unusable => 0xFEA0 ≤ n ∧ n < 0xFF00
  | .ie => 0xFFFF ≤ n

theorem Place.spans_ite {n bound : Nat} {below above : Place} (hb : n < bound → below.Spans n)
    (ha : bound ≤ n → above.Spans n) : (if n < bound then below else above).Spans n :=
  iteInduction (motive := Place.Spans n) hb fun h => ha (Nat.le_of_not_lt h)

theorem placeOf_spans (n : Nat) : (placeOf n).Spans n := by
  unfold placeOf
  repeat' refine Place.spans_ite (fun _ => ?_) fun _ => ?_
  all_goals
    simp only [Place.Spans, Region.base, ne_eq, reduceCtorEq, not_false_eq_true, true_and, false_imp_iff, forall_const]
    omega

theorem spans_of_placeOf {n : Nat} {place : Place} (h : placeOf n = place) : place.Spans n := h ▸ placeOf_spans n

theorem eq_of_placeOf_ie {x : Word} (h : placeOf x.toNat = .ie) : x = 0xFFFF := by
  have top : 0xFFFF ≤ x.toNat := spans_of_placeOf h
  bv_omega

/-! Addresses whose place a statement names. -/

theorem placeOf_io {off : Nat} (h : off < 0x80) : placeOf (0xFF00 + off) = .cell .io off := by
  simp (disch := omega) only [placeOf, if_neg, if_pos, Nat.add_sub_cancel_left]

theorem placeOf_unusable {n : Nat} (h : 0xFEA0 ≤ n) (h' : n < 0xFF00) : placeOf n = .unusable := by
  simp (disch := omega) only [placeOf, if_neg, if_pos]

theorem placeOf_extRam {n : Nat} (h : 0xA000 ≤ n) (h' : n < 0xC000) : placeOf n = .extRam := by
  simp (disch := omega) only [placeOf, if_neg, if_pos]

/-- Video RAM, work RAM and its echo, OAM and high RAM lead to a byte of a region other than the I/O file. -/
theorem placeOf_ram {n : Nat} (h : (0x8000 ≤ n ∧ n < 0xA000) ∨ (0xC000 ≤ n ∧ n < 0xFEA0) ∨ (0xFF80 ≤ n ∧ n < 0xFFFF)) :
    ∃ r i, r ≠ .io ∧ placeOf n = .cell r i := by
  cases e : placeOf n with
  | cell r i =>
    obtain ⟨-, -, -, -, io, at_base⟩ := spans_of_placeOf e
    refine ⟨r, i, fun hr => ?_, rfl⟩
    subst hr
    have inside := io rfl
    simp only [Region.base] at at_base
    omega
  | _ =>
    have spans := spans_of_placeOf e
    simp only [Place.Spans] at spans
    omega

/-- The echo leads where the address 0x2000 below does (R58). -/
theorem placeOf_echo {n : Nat} (h : 0xE000 ≤ n) (h' : n < 0xFE00) : placeOf n = placeOf (n - 0x2000) := by
  by_cases bank0 : n < 0xF000 <;> simp (disch := omega) only [placeOf, if_neg, if_pos, Nat.sub_sub]

/-- A read and a write through a byte of a region do not depend on the address it was reached by. -/
theorem readByte_of_cell {x : Word} {r : Region} {i : Nat} (h : placeOf x.toNat = .cell r i) (s : State) :
    s.readByte x = s.mem.get r i := by
  rw [State.readByte_eq, h, readPlace]

theorem writeByte_of_cell {x : Word} {r : Region} {i : Nat} (hr : r ≠ .io) (h : placeOf x.toNat = .cell r i) (s : State)
    (v : Byte) : s.writeByte x v = s.store r i v := by
  rw [State.writeByte_eq, h, writePlace, if_neg hr]

/-- The address of an I/O register leads to it (R61). -/
theorem placeOf_ioAddress {off : Nat} (h : off < 0x80) :
    placeOf (BitVec.ofNat 16 (0xFF00 + off)).toNat = .cell .io off := by
  rw [BitVec.toNat_ofNat, Nat.mod_eq_of_lt (by omega), placeOf_io h]

theorem readByte_ioAddress (s : State) {off : Nat} (h : off < 0x80) :
    s.readByte (BitVec.ofNat 16 (0xFF00 + off)) = s.ioByte off := by
  rw [readByte_of_cell (placeOf_ioAddress h), State.ioByte]

theorem writeByte_ioAddress (s : State) {off : Nat} (v : Byte) (h : off < 0x80) :
    s.writeByte (BitVec.ofNat 16 (0xFF00 + off)) v = writeIo s off v := by
  rw [State.writeByte_eq, placeOf_ioAddress h, writePlace, if_pos rfl]

theorem placeOf_ie : placeOf 0xFFFF = .ie := by simp [placeOf]

/-- Settles O51: an echo address and the one 0x2000 below lead to one byte of work RAM, an unusable address nowhere. -/
theorem echoAndUnusableRanges : Obligations.EchoAndUnusableRanges := by
  refine fun s x v => ⟨fun low high => ?_, fun low high => ?_⟩
  · obtain ⟨r, i, hr, echo⟩ := placeOf_ram (n := x.toNat) (.inr (.inl ⟨by omega, by omega⟩))
    have below : (x - 0x2000).toNat = x.toNat - 0x2000 := by bv_omega
    have home : placeOf (x - 0x2000).toNat = .cell r i := by rw [below, ← placeOf_echo low high, echo]
    rw [readByte_of_cell echo, readByte_of_cell home, writeByte_of_cell hr echo, writeByte_of_cell hr home]
    exact ⟨rfl, rfl⟩
  · rw [State.readByte_eq, State.writeByte_eq, placeOf_unusable low high]
    exact ⟨rfl, rfl⟩

/-! Reads after a store. -/

/-- A read that a stored byte does not show in: not in its own cell, nor in the window on external RAM. -/
theorem readByte_store_elsewhere (s : State) {r : Region} {i : Nat} (v : Byte) {x : Word} (hrom : r ≠ .rom)
    (hcell : placeOf x.toNat ≠ .cell r i)
    (hram : r = .extRam → placeOf x.toNat = .extRam → extRamIndex s.bank x.toNat ≠ some i) :
    (s.store r i v).readByte x = s.readByte x := by
  rw [State.readByte_eq, State.readByte_eq]
  cases e : placeOf x.toNat with
  | rom => simp [readPlace, readRom, romAt, Memory.get_set, hrom.symm]
  | cell q j =>
    simp only [readPlace, State.store_mem, Memory.get_set]
    exact if_neg fun ⟨hq, hj⟩ => hcell (by rw [e, hq, hj])
  | extRam =>
    simp only [readPlace, readExternalRam, State.store_bank]
    cases index : extRamIndex s.bank x.toNat with
    | none => rfl
    | some j =>
      have other : ¬(.extRam = r ∧ j = i) := fun ⟨hr, hj⟩ => hram hr.symm e (by rw [index, hj])
      simp [ramAt, Memory.get_set, other]
  | unusable | ie => rfl

theorem readByte_store_same (s : State) {r : Region} {i : Nat} (v : Byte) {x : Word} (h : placeOf x.toNat = .cell r i) :
    (s.store r i v).readByte x = v := by
  rw [readByte_of_cell h, State.store_mem, Memory.get_set_same]

theorem placeOf_eq_io_iff {n off : Nat} (h : off < 0x80) : placeOf n = .cell .io off ↔ n = 0xFF00 + off := by
  refine ⟨fun e => ?_, fun e => e ▸ placeOf_io h⟩
  obtain ⟨-, -, -, -, -, at_base⟩ := spans_of_placeOf e
  simp only [Region.base] at at_base
  omega

theorem readByte_setIo (s : State) {off : Nat} (v : Byte) (x : Word) (h : off < 0x80) :
    (s.setIo off v).readByte x = if x.toNat = 0xFF00 + off then v else s.readByte x := by
  rw [State.setIo]
  split
  case isTrue here => exact readByte_store_same s v ((placeOf_eq_io_iff h).mpr here)
  case isFalse elsewhere => exact readByte_store_elsewhere s v nofun (mt (placeOf_eq_io_iff h).mp elsewhere) nofun

theorem readByte_setIo_same (s : State) {off : Nat} (v : Byte) (h : off < 0x80) :
    (s.setIo off v).readByte (BitVec.ofNat 16 (0xFF00 + off)) = v := by
  rw [readByte_ioAddress _ h, State.ioByte_setIo, if_pos rfl]

/-- A register of the sound unit has no other side effect (R62, R68). -/
theorem writeIo_of_sound (s : State) {off : Nat} (v : Byte) (h : 0x10 ≤ off) (h' : off < 0x40) :
    writeIo s off v = notifyApu off v (s.setIo off v) := by
  have sound : isSoundOffset off = true := by simp [isSoundOffset, h, h']
  simp (disch := omega) only [writeIo, if_neg, sound, if_true]

/-- A register without a side effect takes the byte (R62). -/
theorem writeIo_of_plain (s : State) {off : Nat} (v : Byte) (h : off ∉ [0x00, 0x02, 0x04, 0x41, 0x44, 0x46])
    (h' : off < 0x10 ∨ 0x40 ≤ off) : writeIo s off v = s.setIo off v := by
  simp only [List.mem_cons, List.not_mem_nil, or_false, not_or] at h
  have quiet : isSoundOffset off = false := by
    simp only [isSoundOffset, Bool.and_eq_false_iff, decide_eq_false_iff_not]
    omega
  simp (disch := omega) only [writeIo, if_neg, quiet, Bool.false_eq_true, if_false]

/-- A byte of external RAM after one was put (R95). -/
theorem ramAt_ramPut (m : Memory) (i j : Nat) (v : Byte) :
    ramAt (ramPut m i v) j = if j = i ∧ i < m.extRamSize then v else ramAt m j := by
  by_cases hi : i < m.extRamSize
  · by_cases hj : j = i
    · subst hj
      simp [ramAt, ramPut, hi]
    · simp [ramAt, ramPut, hi, hj, Memory.get_set]
  · simp [ramPut, hi]

/-- External RAM of 8-bit cells shows what it stores; only that of MBC2 does not (R103). -/
theorem extRamView_store {bank : BankState} (h : ∀ m, bank ≠ .mbc2 m) (v : Byte) :
    extRamView bank (extRamStore bank v) = v := by
  cases bank with
  | mbc2 m => exact absurd rfl (h m)
  | _ => rfl

/-- Plain storage shows what was written there. -/
theorem readByte_writeByte_of_plainStorage {s : State} {x : Word} (v : Byte) (h : plainStorage s x) :
    (s.writeByte x v).readByte x = v := by
  have window_or_ram : (∃ r i, r ≠ .io ∧ placeOf x.toNat = .cell r i) ∨
      (0xA000 ≤ x.toNat ∧ x.toNat < 0xC000 ∧ (∀ m, s.bank ≠ .mbc2 m) ∧
        ∃ i, extRamIndex s.bank x.toNat = some i ∧ i < s.mem.extRamSize) := by
    obtain ram | ram | ram | window := h
    · exact .inl (placeOf_ram (.inl ram))
    · exact .inl (placeOf_ram (.inr (.inl ram)))
    · exact .inl (placeOf_ram (.inr (.inr ram)))
    · exact .inr window
  obtain ⟨r, i, hr, place⟩ | ⟨low, high, wide, i, index, inside⟩ := window_or_ram
  · rw [writeByte_of_cell hr place, readByte_store_same s v place]
  · rw [State.readByte_eq, State.writeByte_eq, placeOf_extRam low high]
    simp only [readPlace, writePlace, readExternalRam, writeExternalRam, State.withMem_mem, State.withMem_bank, index]
    rw [ramAt_ramPut, if_pos ⟨rfl, inside⟩, extRamView_store wide]

/-- The bits of P1 after a write: the low half stays (R31, D25). -/
theorem p1_write_bits (p v : Byte) : ∀ j < 8,
    ((v &&& 0xF0) ||| (p &&& 0x0F)).getLsbD j = if j < 4 then p.getLsbD j else v.getLsbD j := by
  intro j hj
  interval_cases j <;> simp

/-- The bits of STAT after a write: bits 6 to 3 are taken (R40, D12). -/
theorem stat_write_bits (stat v : Byte) : ∀ j < 8,
    ((stat &&& 0x87) ||| (v &&& 0x78)).getLsbD j = if 3 ≤ j ∧ j ≤ 6 then v.getLsbD j else stat.getLsbD j := by
  intro j hj
  interval_cases j <;> simp

/-- What a write to IE and to the registers with a side effect of their own does, but for SC and DMA (R34, R42, R47, R62). -/
theorem writeByte_special (s : State) (v : Byte) :
    s.writeByte 0xFF00 v = s.setIo 0x00 ((v &&& 0xF0) ||| (s.readByte 0xFF00 &&& 0x0F)) ∧
      s.writeByte 0xFF04 v = { s.setIo 0x04 0 with divAcc := 0 } ∧
      s.writeByte 0xFF41 v = s.setIo 0x41 ((s.readByte 0xFF41 &&& 0x87) ||| (v &&& 0x78)) ∧
      s.writeByte 0xFF44 v = s.setIo 0x44 0 ∧
      s.writeByte 0xFFFF v = { s with ie := v } := by
  have p1 : s.readByte 0xFF00 = s.p1 := readByte_ioAddress s (off := 0x00) (by decide)
  have stat : s.readByte 0xFF41 = s.stat := readByte_ioAddress s (off := 0x41) (by decide)
  rw [p1, stat]
  refine ⟨writeByte_ioAddress s v (off := 0x00) (by decide), writeByte_ioAddress s v (off := 0x04) (by decide),
    writeByte_ioAddress s v (off := 0x41) (by decide), writeByte_ioAddress s v (off := 0x44) (by decide), ?_⟩
  rw [State.writeByte_eq, show (0xFFFF : Word).toNat = 0xFFFF from rfl, placeOf_ie]
  rfl

/-- Settles O52: a read after a store compares the places of the two addresses, and `writeIo` has a case for each register. -/
theorem storesAreReadBack : Obligations.StoresAreReadBack := by
  refine ⟨fun s x v => readByte_writeByte_of_plainStorage v, fun s off v ho => ?_, fun s v => ?_⟩
  · rw [writeByte_ioAddress s v ho]
    exact ⟨readByte_setIo_same s v ho, fun x hx => by rw [readByte_setIo s v x ho, if_neg hx], writeIo_of_plain s v,
      fun low high => ⟨_, writeIo_of_sound s v low high⟩⟩
  · obtain ⟨p1, div, stat, ly, ie⟩ := writeByte_special s v
    have back : (s.writeByte 0xFFFF v).readByte 0xFFFF = v := by
      rw [ie, State.readByte_eq, show (0xFFFF : Word).toNat = 0xFFFF from rfl, placeOf_ie, readPlace]
    exact ⟨div, ly, ie, back, ⟨_, p1, p1_write_bits _ v⟩, ⟨_, stat, stat_write_bits _ v⟩⟩

/-! OAM DMA. -/

/-- The address of byte `i` of a page (R66). -/
theorem pageAddress_eq (v : Byte) (i : Nat) : joinBytes v 0 + BitVec.ofNat 16 i = BitVec.ofNat 16 (v.toNat * 256 + i) := by
  have page : joinBytes v 0 = BitVec.ofNat 16 (v.toNat * 256) := by
    apply BitVec.eq_of_toNat_eq
    have := v.isLt
    rw [joinBytes, BitVec.toNat_append, BitVec.toNat_ofNat, Nat.mod_eq_of_lt (by omega), Nat.shiftLeft_eq]
    simp
  rw [page, BitVec.ofNat_add]

theorem placeOf_eq_oam_iff {n i : Nat} (h : i < 160) : placeOf n = .cell .oam i ↔ n = 0xFE00 + i := by
  constructor
  · intro e
    obtain ⟨-, -, -, -, -, at_base⟩ := spans_of_placeOf e
    simp only [Region.base] at at_base
    omega
  · rintro rfl
    simp (disch := omega) only [placeOf, if_neg, if_pos, Nat.add_sub_cancel_left]

/-- The first `k` bytes of a DMA: the sprite table holds the bytes that the page had before, also where the page is the sprite
table itself, since byte `i` is then read before it is written. -/
theorem readByte_dmaBytes (v : Byte) (s : State) (x : Word) {k : Nat} (hk : k ≤ 160) :
    ((List.range k).foldl (dmaByte v) s).readByte x =
      if 0xFE00 ≤ x.toNat ∧ x.toNat < 0xFE00 + k then s.readByte (BitVec.ofNat 16 (v.toNat * 256 + (x.toNat - 0xFE00)))
      else s.readByte x := by
  induction k generalizing x with
  | zero => rw [if_neg (by omega)]; rfl
  | succ k ih =>
    have entry (n : Nat) : placeOf n = .cell .oam k ↔ n = 0xFE00 + k := placeOf_eq_oam_iff hk
    rw [List.range_succ, List.foldl_append, List.foldl_cons, List.foldl_nil, dmaByte, pageAddress_eq]
    by_cases here : x.toNat = 0xFE00 + k
    · have source : (BitVec.ofNat 16 (v.toNat * 256 + k)).toNat = v.toNat * 256 + k := Nat.mod_eq_of_lt (by omega)
      have unwritten : ¬(0xFE00 ≤ v.toNat * 256 + k ∧ v.toNat * 256 + k < 0xFE00 + k) := by omega
      rw [readByte_store_same _ _ ((entry _).mpr here), if_pos (by omega), ih _ (by omega), source, if_neg unwritten, here,
        Nat.add_sub_cancel_left]
    · rw [readByte_store_elsewhere _ _ (by decide) (mt (entry _).mp here) (fun e => nomatch e), ih x (by omega)]
      congr 1
      simp only [eq_iff_iff]
      omega

/-- What a write to the DMA trigger does (R62, R66). -/
theorem writeByte_dma (s : State) (v : Byte) : s.writeByte 0xFF46 v = oamDma v (s.setIo 0x46 v) :=
  writeByte_ioAddress s v (off := 0x46) (by decide)

/-- A read after a DMA: the sprite table shows the page, every other address what it showed. -/
theorem readByte_oamDma (v : Byte) (s : State) (x : Word) :
    (oamDma v s).readByte x =
      if 0xFE00 ≤ x.toNat ∧ x.toNat < 0xFEA0 then s.readByte (BitVec.ofNat 16 (v.toNat * 256 + (x.toNat - 0xFE00)))
      else s.readByte x :=
  readByte_dmaBytes v s x (Nat.le_refl 160)

/-- Settles O53: after the trigger has taken the byte, the DMA copies the page and leaves the trigger. -/
theorem dmaCopiesThePage : Obligations.DmaCopiesThePage := by
  intro s v i hi
  have entry : (BitVec.ofNat 16 (0xFE00 + i)).toNat = 0xFE00 + i := Nat.mod_eq_of_lt (by omega)
  rw [writeByte_dma, readByte_oamDma, readByte_oamDma, entry, if_pos (by omega), if_neg (by decide), Nat.add_sub_cancel_left]
  exact ⟨rfl, readByte_setIo_same s v (off := 0x46) (by decide)⟩

end Sys2Proof.Machine
end

section
/-! PROOFS. What an instruction and a step leave of memory: the reads that no store reaches, the cartridge image, and the kind
of controller. -/

namespace Sys2Proof.Machine

/-! The kind of controller (R91). -/

/-- The controllers apart from their registers. -/
inductive ControllerKind
  | noBanking | mbc1 | mbc2 | mbc3 | mbc5

def BankState.kind : BankState → ControllerKind
  | .noBanking => .noBanking
  | .mbc1 _ => .mbc1
  | .mbc2 _ => .mbc2
  | .mbc3 _ => .mbc3
  | .mbc5 _ => .mbc5

section
variable {bank : BankState}

theorem BankState.eq_noBanking_iff : bank = .noBanking ↔ bank.kind = .noBanking := by cases bank <;> simp [BankState.kind]
theorem BankState.exists_mbc1_iff : (∃ m, bank = .mbc1 m) ↔ bank.kind = .mbc1 := by cases bank <;> simp [BankState.kind]
theorem BankState.exists_mbc2_iff : (∃ m, bank = .mbc2 m) ↔ bank.kind = .mbc2 := by cases bank <;> simp [BankState.kind]
theorem BankState.exists_mbc3_iff : (∃ m, bank = .mbc3 m) ↔ bank.kind = .mbc3 := by cases bank <;> simp [BankState.kind]
theorem BankState.exists_mbc5_iff : (∃ m, bank = .mbc5 m) ↔ bank.kind = .mbc5 := by cases bank <;> simp [BankState.kind]

end

/-- A write to a bank register stays within the controller (R98). -/
theorem writeRomRegister_kind (bank : BankState) (addr : Nat) (v : Byte) : (writeRomRegister bank addr v).kind = bank.kind := by
  cases bank <;> rfl

theorem writeByte_kind (s : State) (x : Word) (v : Byte) : (s.writeByte x v).bank.kind = s.bank.kind := by
  by_cases h : 0x8000 ≤ x.toNat
  · rw [(writeByte_storeFrame s x v).bank h]
  · have rom : placeOf x.toNat = .rom := if_pos (Nat.lt_of_not_le h)
    rw [State.writeByte_eq, rom, writePlace, State.withBank_bank, writeRomRegister_kind]

theorem homeAddress_of_kind {bank later : BankState} (h : later.kind = bank.kind) : homeAddress later = homeAddress bank := by
  cases bank <;> cases later <;> cases h <;> rfl

/-- What a store reaches depends on the kind of controller alone, so an earlier store to a bank register does not change it. -/
theorem storeReaches_of_kind {bank later : BankState} (h : later.kind = bank.kind) : storeReaches later = storeReaches bank := by
  funext addr x
  rw [storeReaches, homeAddress_of_kind h, storeReaches]

/-! Reads that a store does not reach. -/

/-- Two addresses of the window that show one byte of external RAM are one address, or repetitions of one (R99 to R107). -/
theorem homeAddress_of_extRamIndex {bank : BankState} {n k i : Nat} (hn : 0xA000 ≤ n ∧ n < 0xC000)
    (hk : 0xA000 ≤ k ∧ k < 0xC000) (en : extRamIndex bank n = some i) (ek : extRamIndex bank k = some i) :
    homeAddress bank n = homeAddress bank k := by
  have n_off_echo : ¬(0xE000 ≤ n ∧ n < 0xFE00) := by omega
  have k_off_echo : ¬(0xE000 ≤ k ∧ k < 0xFE00) := by omega
  unfold homeAddress
  rw [if_neg n_off_echo, if_neg k_off_echo]
  cases bank with
  | noBanking => cases en
  | mbc2 m =>
    simp only [extRamIndex, Option.ite_none_right_eq_some, Option.some.injEq] at en ek
    simp only [if_pos hn, if_pos hk]
    omega
  | mbc1 m | mbc3 m | mbc5 m =>
    simp only [extRamIndex, Option.ite_none_right_eq_some, Option.some.injEq] at en ek
    show n = k
    omega

/-- A byte of a region lies at one address, or at one and its echo (R58). -/
theorem homeAddress_of_cell {bank : BankState} {n : Nat} {r : Region} {i : Nat} (h : placeOf n = .cell r i) :
    homeAddress bank n = r.base + i := by
  obtain ⟨-, outside, -, -, -, at_base⟩ := spans_of_placeOf h
  unfold homeAddress
  split
  · omega
  · cases bank with
    | mbc2 m => simp only; rw [if_neg (by omega)]; omega
    | _ => simp only; omega

/-- An I/O write changes what its own address shows, and by a DMA the sprite table (R62, R66). -/
theorem readByte_writeIo (s : State) {off : Nat} (v : Byte) {x : Word} (h : off < 0x80) (hx : x.toNat ≠ 0xFF00 + off)
    (hdma : off = 0x46 → ¬(0xFE00 ≤ x.toNat ∧ x.toNat < 0xFEA0)) : (writeIo s off v).readByte x = s.readByte x := by
  have stored (w : Byte) : (s.setIo off w).readByte x = s.readByte x := by rw [readByte_setIo s w x h, if_neg hx]
  obtain ⟨w, e⟩ | ⟨rfl, -, e⟩ | ⟨rfl, e⟩ | ⟨rfl, e⟩ | ⟨-, e⟩ := writeIo_cases s off v <;> rw [e]
  · exact stored w
  · exact stored v
  · exact stored 0
  · rw [readByte_oamDma, if_neg (hdma rfl), stored]
  · exact stored v

/-- A write to the window on external RAM stores at most the byte that the window shows there (R57, R95, R96). -/
theorem writeExternalRam_cases (s : State) (n : Nat) (v : Byte) :
    s.withMem (writeExternalRam s.mem s.bank n v) = s ∨
      ∃ i w, extRamIndex s.bank n = some i ∧ s.withMem (writeExternalRam s.mem s.bank n v) = s.store .extRam i w := by
  unfold writeExternalRam ramPut
  cases index : extRamIndex s.bank n with
  | none => exact .inl rfl
  | some i =>
    by_cases inside : i < s.mem.extRamSize
    · exact .inr ⟨i, _, rfl, by simp only [if_pos inside]; rfl⟩
    · exact .inl (by simp only [if_neg inside]; rfl)

/-- A store leaves every read that it does not reach. -/
theorem readByte_writeByte_of_not_reaches {s : State} {addr x : Word} (v : Byte) (h : ¬storeReaches s.bank addr x) :
    (s.writeByte addr v).readByte x = s.readByte x := by
  rw [State.writeByte_eq]
  cases place : placeOf addr.toNat with
  | rom =>
    have below : addr.toNat < 0x8000 := spans_of_placeOf place
    rw [storeReaches, if_pos below] at h
    rw [State.readByte_eq, State.readByte_eq]
    cases e : placeOf x.toNat with
    | rom => exact absurd (.inl (spans_of_placeOf e)) h
    | extRam => exact absurd (.inr (spans_of_placeOf e)) h
    | cell | unusable | ie => rfl
  | cell r i =>
    obtain ⟨above, -, hrom, hram, hio, -⟩ := spans_of_placeOf place
    rw [storeReaches, if_neg (by omega), not_or] at h
    obtain ⟨apart, dma⟩ := h
    have elsewhere : placeOf x.toNat ≠ .cell r i := fun e => apart (by rw [homeAddress_of_cell e, homeAddress_of_cell place])
    rw [writePlace]
    split
    case isTrue io =>
      subst io
      have at_off := (placeOf_eq_io_iff (hio rfl)).mp place
      exact readByte_writeIo s v (hio rfl) (fun e => elsewhere ((placeOf_eq_io_iff (hio rfl)).mpr e))
        fun trigger range => dma ⟨BitVec.eq_of_toNat_eq (by rw [at_off, trigger]; rfl), range⟩
    case isFalse => exact readByte_store_elsewhere s v hrom elsewhere fun e => absurd e hram
  | extRam =>
    obtain ⟨low, high⟩ : 0xA000 ≤ addr.toNat ∧ addr.toNat < 0xC000 := spans_of_placeOf place
    rw [storeReaches, if_neg (by omega), not_or] at h
    obtain ⟨apart, -⟩ := h
    rw [writePlace]
    obtain e | ⟨i, w, index, e⟩ := writeExternalRam_cases s addr.toNat v <;> rw [e]
    refine readByte_store_elsewhere s w nofun (fun e => ?_) fun _ e shown => ?_
    · obtain ⟨-, -, -, hram, -⟩ := spans_of_placeOf e
      exact hram rfl
    · exact apart (homeAddress_of_extRamIndex (spans_of_placeOf e) ⟨low, high⟩ shown index)
  | unusable => rfl
  | ie =>
    obtain rfl := eq_of_placeOf_ie place
    rw [storeReaches, if_neg (by decide), not_or] at h
    obtain ⟨apart, -⟩ := h
    rw [writePlace, State.readByte_eq, State.readByte_eq]
    cases e : placeOf x.toNat with
    | ie => exact absurd (by rw [eq_of_placeOf_ie e]) apart
    | _ => rfl

/-! What a part of a step does to the cartridge and to the reads. -/

/-- The cartridge image, the size of external RAM and the kind of controller stay (R55, R91). -/
structure KeepsCartridge (s t : State) : Prop where
  image : s.mem.sameImage t.mem
  kind : t.bank.kind = s.bank.kind

/-- `t` comes from `s` by changes outside of memory and by stores to the addresses `addrs`. -/
structure StoresOnly (addrs : List Word) (s t : State) : Prop extends KeepsCartridge s t where
  reads : ∀ x, (∀ addr ∈ addrs, ¬storeReaches s.bank addr x) → t.readByte x = s.readByte x

theorem KeepsCartridge.of_image {s t : State} (image : s.mem.sameImage t.mem) (bank : t.bank = s.bank) : KeepsCartridge s t :=
  ⟨image, by rw [bank]⟩

theorem KeepsCartridge.of_same {s t : State} (mem : t.mem = s.mem) (bank : t.bank = s.bank) : KeepsCartridge s t :=
  .of_image (by rw [mem]; exact ⟨rfl, rfl, rfl⟩) bank

theorem KeepsCartridge.trans {s t u : State} (h : KeepsCartridge s t) (g : KeepsCartridge t u) : KeepsCartridge s u :=
  ⟨Memory.sameImage_trans h.image g.image, g.kind.trans h.kind⟩

theorem StoresOnly.trans {addrs : List Word} {s t u : State} (h : StoresOnly addrs s t) (g : StoresOnly addrs t u) :
    StoresOnly addrs s u where
  toKeepsCartridge := h.toKeepsCartridge.trans g.toKeepsCartridge
  reads x hx := (g.reads x (by rw [storeReaches_of_kind h.kind]; exact hx)).trans (h.reads x hx)

section
variable {addrs : List Word} {s t : State}

/-- A change of registers, flags or control state. -/
theorem StoresOnly.of_same (mem : t.mem = s.mem) (bank : t.bank = s.bank) (ie : t.ie = s.ie) : StoresOnly addrs s t where
  toKeepsCartridge := .of_same mem bank
  reads x _ := State.readByte_congr mem bank ie x

theorem storesOnly_ite {c : Prop} [Decidable c] (h : c → StoresOnly addrs s t) : StoresOnly addrs s (if c then t else s) := by
  split
  case isTrue hc => exact h hc
  case isFalse => exact .of_same rfl rfl rfl

variable (s)

theorem storesOnly_writeByte {x : Word} (v : Byte) (h : x ∈ addrs) : StoresOnly addrs s (s.writeByte x v) where
  image := s.writeByte_sameImage x v
  kind := writeByte_kind s x v
  reads _ apart := readByte_writeByte_of_not_reaches v (apart x h)

theorem storesOnly_setFlags (f : Flags) : StoresOnly addrs s { s with f := f } := .of_same rfl rfl rfl

theorem storesOnly_setSp (v : Word) : StoresOnly addrs s { s with sp := v } := .of_same rfl rfl rfl

theorem storesOnly_setReg (r : Reg8) (v : Byte) : StoresOnly addrs s (s.setReg r v) :=
  .of_same (s.setReg_mem r v) (s.setReg_bank r v) (s.setReg_ie r v)

theorem storesOnly_setReg16 (r : Reg16) (v : Word) : StoresOnly addrs s (s.setReg16 r v) := by
  cases r <;> exact .of_same rfl rfl rfl

theorem storesOnly_setStackReg (r : StackReg) (v : Word) : StoresOnly addrs s (s.setStackReg r v) := by
  cases r <;> exact .of_same rfl rfl rfl

theorem storesOnly_setOperand {o : Operand8} (v : Byte) (h : operandStores s o ⊆ addrs) :
    StoresOnly addrs s (s.setOperand o v) := by
  cases o with
  | reg r => exact storesOnly_setReg s r v
  | indHL => exact storesOnly_writeByte s v (h List.mem_cons_self)

theorem storesOnly_push16 (v : Word) (h : pushStores s ⊆ addrs) : StoresOnly addrs s (s.push16 v) := by
  have high : s.sp - 1 ∈ addrs := h List.mem_cons_self
  have low : s.sp - 2 ∈ addrs := h (List.mem_cons_of_mem _ List.mem_cons_self)
  rw [State.push16]
  refine (storesOnly_setSp s (s.sp - 1)).trans ((storesOnly_writeByte _ _ high).trans
    ((storesOnly_setSp _ _).trans (storesOnly_writeByte _ _ ?_)))
  simpa [BitVec.sub_sub] using low

theorem storesOnly_jumpTo (v : Word) : StoresOnly addrs s (jumpTo v s) := .of_same rfl rfl rfl

theorem storesOnly_callTo (v : Word) (h : pushStores s ⊆ addrs) : StoresOnly addrs s (callTo v s) :=
  (storesOnly_push16 s s.pc h).trans (storesOnly_jumpTo _ v)

end

/-- The effect of a form stores to the addresses of the form's footprint. -/
theorem effect_storesOnly (f : Form) (origin : Word) (t : State) : StoresOnly (f.footprint t).stores t (f.effect origin t) := by
  cases f with
  | inc o | dec o | rotate _ o => exact (storesOnly_setFlags t _).trans (storesOnly_setOperand _ _ (List.Subset.refl _))
  | resetBit _ o | setBit _ o => exact storesOnly_setOperand t _ (List.Subset.refl _)
  | storeIndHL | storeImm | storeA => exact storesOnly_writeByte t _ List.mem_cons_self
  | storeAMoveHL => exact (storesOnly_writeByte t _ List.mem_cons_self).trans (.of_same rfl rfl rfl)
  | storeSP =>
    exact (storesOnly_writeByte t _ List.mem_cons_self).trans
      (storesOnly_writeByte _ _ (List.mem_cons_of_mem _ List.mem_cons_self))
  | push => exact storesOnly_push16 t _ (List.Subset.refl _)
  | call | restart => exact storesOnly_callTo t _ (List.Subset.refl _)
  | callIf cc => exact storesOnly_ite fun h => storesOnly_callTo t _ (by simp [Form.footprint, h])
  | jumpIf | jumpRelIf | retIf | ei => exact storesOnly_ite fun _ => .of_same rfl rfl rfl
  | halt =>
    show StoresOnly _ t (if _ then _ else _)
    split <;> exact .of_same rfl rfl rfl
  | load | loadIndHL | loadImm => exact storesOnly_setReg t _ _
  | loadImm16 | incReg16 | decReg16 => exact storesOnly_setReg16 t _ _
  | pop => exact (storesOnly_setSp t _).trans (storesOnly_setStackReg _ _ _)
  | _ => exact .of_same rfl rfl rfl

/-- Settles O31: the stores of an instruction's form are those of the table, and each leaves the reads it does not reach. -/
theorem memoryChangesOnlyWhereStored : Obligations.MemoryChangesOnlyWhereStored := by
  intro i s t x h hx apart
  obtain ⟨f, rfl⟩ := exists_form h
  rw [(footprint_tabulated f s).stores, ← footprint_fetched f s f.fetches] at apart
  rw [exec_instr] at hx
  cases hx
  exact (effect_storesOnly f s.pc (s.fetched f.fetches)).reads x apart

/-! The step. -/

theorem cpuStep_keepsCartridge {s t : State} (h : cpuStep s = .next t) : KeepsCartridge s t := by
  unfold cpuStep at h
  split at h
  case isTrue =>
    cases h
    exact .of_same rfl rfl
  case isFalse =>
    obtain ⟨f, e⟩ := exists_form_exec (fetchInstr s) s
    cases e.symm.trans h
    have kept := effect_storesOnly f s.pc (s.fetched f.fetches)
    exact ⟨kept.image, kept.kind⟩

theorem takeInput_keepsCartridge (s : State) : KeepsCartridge s (takeInput s) := by
  unfold takeInput
  split <;> exact .of_same rfl rfl

theorem imeTick_keepsCartridge (s : State) : KeepsCartridge s (imeTick s) := by
  unfold imeTick
  split
  · exact .of_same rfl rfl
  · split <;> exact .of_same rfl rfl

theorem advanceDevices_keepsCartridge (c : Nat) (s : State) : KeepsCartridge s (advanceDevices c s) := by
  obtain ⟨mem, _, _, _, _, _, _, _, h, e⟩ := advanceDevices_shape c s
  rw [e]
  exact .of_image h.image rfl

theorem wake_keepsCartridge (s : State) : KeepsCartridge s (wake s) := by
  unfold wake
  split <;> exact .of_same rfl rfl

theorem takeInterrupt_keepsCartridge (i : Nat) (s : State) : KeepsCartridge s (takeInterrupt i s) := by
  have pushed := (storesOnly_push16 s s.pc (List.Subset.refl _)).toKeepsCartridge
  have entered (t : State) (pc : Word) (ime : Bool) : KeepsCartridge t { t with pc := pc, ime := ime } := .of_same rfl rfl
  have acknowledged (t : State) (v : Byte) : KeepsCartridge t (t.setIo 0x0F v) :=
    .of_image (Memory.sameImage_set (by decide)) rfl
  exact pushed.trans ((entered _ _ _).trans (acknowledged _ _))

theorem interruptCheck_keepsCartridge (s : State) : KeepsCartridge s (interruptCheck s).1 := by
  have woken := wake_keepsCartridge s
  simp only [interruptCheck]
  split
  · exact .of_same rfl rfl
  · split
    · split
      · exact woken.trans (takeInterrupt_keepsCartridge _ _)
      · exact woken
    · exact woken

theorem checkInterrupts_keepsCartridge (c : Nat) (s : State) : KeepsCartridge s (checkInterrupts c s) := by
  have clock (t : State) (n : Nat) : KeepsCartridge t { t with clock := n } := .of_same rfl rfl
  have checked := interruptCheck_keepsCartridge s
  simp only [checkInterrupts]
  split
  · exact checked.trans (clock _ _)
  · exact checked.trans ((advanceDevices_keepsCartridge _ _).trans (clock _ _))

theorem catchUp_keepsCartridge (s : State) : KeepsCartridge s (catchUp s) :=
  (imeTick_keepsCartridge s).trans ((advanceDevices_keepsCartridge _ _).trans (checkInterrupts_keepsCartridge _ _))

theorem step_keepsCartridge {s t : State} (h : step s = .next t) : KeepsCartridge s t := by
  unfold step at h
  split at h
  case h_1 u e =>
    cases h
    exact (takeInput_keepsCartridge s).trans ((cpuStep_keepsCartridge e).trans (catchUp_keepsCartridge u))
  case h_2 => cases h
  case h_3 => cases h

/-- Settles O54: a step keeps the cartridge, part by part. -/
theorem cartridgeImageIsNeverWritten : Obligations.CartridgeImageIsNeverWritten := by
  intro s t h
  obtain ⟨⟨rom, romSize, extRamSize⟩, kind⟩ := step_keepsCartridge h
  simp only [BankState.eq_noBanking_iff, BankState.exists_mbc1_iff, BankState.exists_mbc2_iff, BankState.exists_mbc3_iff,
    BankState.exists_mbc5_iff, kind, and_true]
  exact ⟨rom, romSize, extRamSize⟩

end Sys2Proof.Machine
end

section
/-! PROOFS. The cartridge as a program sees it through the router: the two windows on the image, the window on external RAM and
the bank registers, for no controller, MBC1 and MBC2 (R99 to R103). -/

namespace Sys2Proof.Machine

/-! What every controller shares: the windows (R54, R57) and the values of the registers. -/

theorem placeOf_rom {n : Nat} (h : n < 0x8000) : placeOf n = .rom := if_pos h

section
variable {s : State} {bank : BankState} {x : Word} (v : Byte) (hb : s.bank = bank)
include hb

theorem readByte_lowRom (h : x.toNat < 0x4000) : s.readByte x = romAt s.mem (lowRomOffset bank x.toNat) := by
  rw [State.readByte_eq, placeOf_rom (by omega), readPlace, readRom, if_pos h, hb]

theorem readByte_highRom (low : 0x4000 ≤ x.toNat) (high : x.toNat < 0x8000) :
    s.readByte x = romAt s.mem (highRomOffset bank x.toNat) := by
  rw [State.readByte_eq, placeOf_rom high, readPlace, readRom, if_neg (by omega), hb]

theorem writeByte_rom (h : x.toNat < 0x8000) :
    s.writeByte x v = { s with bank := writeRomRegister bank x.toNat v } := by
  rw [State.writeByte_eq, placeOf_rom h, writePlace, State.withBank, hb]

theorem writeByte_rom_of_inert (h : x.toNat < 0x8000) (inert : writeRomRegister bank x.toNat v = bank) :
    s.writeByte x v = s := by
  rw [writeByte_rom v hb h, inert, ← hb]

/-- A window that shows byte `i` of external RAM under the condition `c`, and no RAM otherwise (R57, R96). -/
theorem extRam_window {c : Prop} [Decidable c] {i : Nat} (low : 0xA000 ≤ x.toNat) (high : x.toNat < 0xC000)
    (index : extRamIndex bank x.toNat = if c then some i else none) :
    s.readByte x = (if c then extRamView bank (ramAt s.mem i) else 0xFF) ∧
      s.writeByte x v = (if c then { s with mem := ramPut s.mem i (extRamStore bank v) } else s) := by
  rw [State.readByte_eq, State.writeByte_eq, placeOf_extRam low high, readPlace, writePlace, readExternalRam,
    writeExternalRam, hb, index]
  by_cases shown : c
  · rw [if_pos shown, if_pos shown, if_pos shown, State.withMem, hb]
    exact ⟨rfl, rfl⟩
  · rw [if_neg shown, if_neg shown, if_neg shown, State.withMem]
    exact ⟨rfl, rfl⟩

end

theorem enablesRam_eq (v : Byte) : enablesRam v = decide (v.toNat % 16 = 0xA) := by
  have low : (v &&& 0x0F).toNat = v.toNat % 16 := Nat.and_two_pow_sub_one_eq_mod v.toNat 4
  rw [enablesRam, beq_eq_decide, decide_eq_decide, ← BitVec.toNat_inj, low]
  rfl

/-- The bank number that the low `k` bits of a byte select, with bank 0 adjusted to bank 1. -/
theorem toNat_atLeastOne {k : Nat} (hk : 0 < k) (v : Byte) :
    (atLeastOne k (v.setWidth k)).toNat = if v.toNat % 2 ^ k = 0 then 1 else v.toNat % 2 ^ k := by
  have zero_iff : v.setWidth k = 0 ↔ v.toNat % 2 ^ k = 0 := by
    rw [← BitVec.toNat_inj, BitVec.toNat_setWidth]
    rfl
  simp only [atLeastOne, zero_iff]
  split
  · exact BitVec.toNat_one hk
  · exact BitVec.toNat_setWidth ..

/-! No controller (R99). -/

theorem noBanking_rom {s : State} {x : Word} (v : Byte) (hb : s.bank = .noBanking) (h : x.toNat < 0x8000) :
    s.readByte x = romAt s.mem x.toNat ∧ s.writeByte x v = s := by
  constructor
  · by_cases low : x.toNat < 0x4000
    · exact readByte_lowRom hb low
    · exact readByte_highRom hb (Nat.le_of_not_lt low) h
  · exact writeByte_rom_of_inert v hb h rfl

theorem noBanking_extRam {s : State} {x : Word} (v : Byte) (hb : s.bank = .noBanking) (low : 0xA000 ≤ x.toNat)
    (high : x.toNat < 0xC000) : s.readByte x = 0xFF ∧ s.writeByte x v = s := by
  have hidden : extRamIndex .noBanking x.toNat = if False then some 0 else none := rfl
  exact extRam_window v hb low high hidden

/-! MBC1 (R100, R101). -/

/-- The bank registers of MBC1 by the range of the write. -/
theorem writeMbc1_ranges (m : Mbc1) (n : Nat) (v : Byte) :
    (n < 0x2000 → writeMbc1 m n v = { m with ramEnable := decide (v.toNat % 16 = 0xA) }) ∧
      (0x2000 ≤ n → n < 0x4000 → writeMbc1 m n v = { m with bank1 := atLeastOne 5 (v.setWidth 5) }) ∧
      (0x4000 ≤ n → n < 0x6000 → writeMbc1 m n v = { m with bank2 := v.setWidth 2 }) ∧
      (0x6000 ≤ n → writeMbc1 m n v = { m with bankMode := v.getLsbD 0 }) := by
  rw [writeMbc1, ← enablesRam_eq]
  refine ⟨fun h => ?_, fun low high => ?_, fun low high => ?_, fun low => ?_⟩
  · rw [if_pos h]
  · rw [if_neg (by omega), if_pos high]
  · rw [if_neg (by omega), if_neg (by omega), if_pos high]
  · rw [if_neg (by omega), if_neg (by omega), if_neg (by omega)]

/-- The window at 0x0000 shows the bank of `Bank2` alone, and only in mode 1. -/
theorem lowRomOffset_mbc1 (m : Mbc1) (n : Nat) :
    lowRomOffset (.mbc1 m) n = (if m.bankMode then 32 * m.bank2.toNat else 0) * 0x4000 + n := by
  rw [Nat.mul_comm 32]
  rfl

/-- The window at 0x4000 shows the bank that the two registers form. -/
theorem highRomOffset_mbc1 (m : Mbc1) (n : Nat) :
    highRomOffset (.mbc1 m) n = (32 * m.bank2.toNat + m.bank1.toNat) * 0x4000 + (n - 0x4000) := by
  have joined : (m.bank2 ++ m.bank1).toNat = 32 * m.bank2.toNat + m.bank1.toNat := by
    rw [BitVec.toNat_append, ← Nat.shiftLeft_add_eq_or_of_lt m.bank1.isLt, Nat.shiftLeft_eq, Nat.mul_comm]
  rw [← joined]
  rfl

/-! MBC2 (R102, R103). -/

theorem div_256_mod_2_eq_zero_iff (x : Word) : x.toNat / 256 % 2 = 0 ↔ x.getLsbD 8 = false := by
  rw [BitVec.getLsbD, Nat.testBit_eq_decide_div_mod_eq, decide_eq_false_iff_not, Nat.mod_two_not_eq_one]

/-- The bank registers of MBC2 by the range of the write and bit 8 of its address. -/
theorem writeMbc2_ranges (m : Mbc2) (x : Word) (v : Byte) :
    (x.toNat < 0x4000 → x.getLsbD 8 = false →
        writeMbc2 m x.toNat v = { m with ramEnable := decide (v.toNat % 16 = 0xA) }) ∧
      (x.toNat < 0x4000 → x.getLsbD 8 = true →
        writeMbc2 m x.toNat v = { m with romBank := atLeastOne 4 (v.setWidth 4) }) ∧
      (0x4000 ≤ x.toNat → writeMbc2 m x.toNat v = m) := by
  simp only [writeMbc2, ← enablesRam_eq, div_256_mod_2_eq_zero_iff]
  refine ⟨fun h bit => ?_, fun h bit => ?_, fun h => ?_⟩
  · rw [if_pos h, if_pos bit]
  · rw [if_pos h, if_neg (by simp [bit])]
  · rw [if_neg (by omega)]

theorem highRomOffset_mbc2 (m : Mbc2) (n : Nat) :
    highRomOffset (.mbc2 m) n = m.romBank.toNat * 0x4000 + (n - 0x4000) := rfl

/-- The 512 cells of MBC2 repeat through the window, and a cell has the low 4 bits of its byte. -/
theorem mbc2_extRam {s : State} {m : Mbc2} {x : Word} (v : Byte) (hb : s.bank = .mbc2 m) (low : 0xA000 ≤ x.toNat)
    (high : x.toNat < 0xC000) (cells : s.mem.extRamSize = 512) :
    s.readByte x = (if m.ramEnable then 0xF0 ||| (s.mem.get .extRam ((x.toNat - 0xA000) % 512) &&& 0x0F) else 0xFF) ∧
      s.writeByte x v = (if m.ramEnable then
        { s with mem := s.mem.set .extRam ((x.toNat - 0xA000) % 512) (v &&& 0x0F) } else s) := by
  have inside : (x.toNat - 0xA000) % 512 < s.mem.extRamSize := by omega
  have window := extRam_window v hb low high rfl
  rwa [ramAt, ramPut, if_pos inside, if_pos inside] at window

/-- Settles O55: a write in the image's range goes to the register of its range, and a read goes through the window's offset. -/
theorem noBankingMbc1AndMbc2 : Obligations.NoBankingMbc1AndMbc2 := by
  refine ⟨fun s m x v hb => ?_, fun s m x v => ⟨noBanking_rom v, noBanking_extRam v, fun hb => ?_⟩⟩
  · have write (h : x.toNat < 0x8000) : s.writeByte x v = { s with bank := .mbc1 (writeMbc1 m x.toNat v) } :=
      writeByte_rom v hb h
    obtain ⟨enable, bank1, bank2, mode⟩ := writeMbc1_ranges m x.toNat v
    refine ⟨fun h => ?_, fun low high => ⟨_, toNat_atLeastOne (by decide) v, ?_⟩,
      fun low high => ⟨_, BitVec.toNat_setWidth 2 v, ?_⟩, fun low high => ?_, fun h => ?_, fun low high => ?_,
      fun low high => extRam_window v hb low high rfl⟩
    · rw [write (by omega), enable h]
    · rw [write (by omega), bank1 low high]
    · rw [write (by omega), bank2 low high]
    · rw [write high, mode low]
    · rw [readByte_lowRom hb h, lowRomOffset_mbc1]
    · rw [readByte_highRom hb low high, highRomOffset_mbc1]
  · have write (h : x.toNat < 0x8000) : s.writeByte x v = { s with bank := .mbc2 (writeMbc2 m x.toNat v) } :=
      writeByte_rom v hb h
    obtain ⟨enable, romBank, inert⟩ := writeMbc2_ranges m x v
    refine ⟨fun h bit => ?_, fun h bit => ⟨_, toNat_atLeastOne (by decide) v, ?_⟩,
      fun low high => ⟨writeByte_rom_of_inert v hb high ?_, ?_⟩, readByte_lowRom hb, mbc2_extRam v hb⟩
    · rw [write (by omega), enable h bit]
    · rw [write (by omega), romBank h bit]
    · rw [writeRomRegister, inert low]
    · rw [readByte_highRom hb low high, highRomOffset_mbc2]

end Sys2Proof.Machine
end

section
/-! PROOFS. The decoder and the encoder undo each other (`decode_encode`, `encode_decodeBytes`); the cycle tables, read by opcode
byte, give the counts of the forms (`tableCycles_instr`). -/

namespace Sys2Proof.Machine

/-! Decoding what was encoded. -/

/-- The decoder reads off a well-formed instruction's bytes the form that its entry has. -/
theorem decode_encode {i : Instr} (rest : List Byte) (h : WellFormed i) : decode (encode i ++ rest) = .ok (i, rest) := by
  conv_rhs => rw [← instr_formOf h]
  cases i with
  | prefixCB => exact absurd rfl h
  | _ => rfl

/-- Settles O2: the decoder gives the form of the entry back. -/
theorem decodingAnEncodingGivesTheInstruction : Obligations.DecodingAnEncodingGivesTheInstruction :=
  fun _ rest h => decode_encode rest h

/-- Settles O1: each word is the encoding of what it stands for. -/
theorem wordsOfTheTablesDecode : Obligations.WordsOfTheTablesDecode := by
  have word (i : Instr) (h : WellFormed i) : decode (encode i) = .ok (i, []) := by
    simpa using decode_encode [] h
  exact ⟨word (.ldAN8 0x42) nofun, word .ldHIndHL nofun, word (.ldHLN16 0x1234) nofun, word .pushAF nofun, word .subE nofun,
    word (.andN8 0x3F) nofun, word .daa nofun, word .addHLBC nofun, word (.addSPE8 0xFE) nofun, word .swapA nofun,
    word .bit4L nofun, word (.jpNZA16 0x0200) nofun, word (.jrE8 0x05) nofun, word .rst28 nofun, word .halt nofun,
    word .illegalDD nofun⟩

/-! Encoding what was decoded. -/

theorem lowByte_joinBytes (hi lo : Byte) : lowByte (joinBytes hi lo) = lo := BitVec.extractLsb'_append_eq_right

theorem highByte_joinBytes (hi lo : Byte) : highByte (joinBytes hi lo) = hi := BitVec.extractLsb'_append_eq_left

theorem baseLength_bounds (op : Byte) : 0 < baseLength op ∧ baseLength op ≤ 3 := by
  revert op
  decide

/-- Every entry of the second table is encoded as its place there (R129, R135). -/
theorem encode_cbInstr (op : Byte) : encode (cbInstr op) = [0xCB, op] := by
  revert op
  decide

/-- Every entry of the base table but the prefix is encoded as its place there and its operand, which is of the length that
the grid of lengths gives (R128). -/
theorem encode_baseTable (op n : Byte) (w : Word) (h : op ≠ 0xCB) :
    encode (((baseTable n w).getD (op.toNat / 16) []).getD (op.toNat % 16) .nop) =
      if baseLength op = 3 then encodeWord op w else [op, n].take (baseLength op) := by
  obtain ⟨k, hk, rfl⟩ : ∃ k < 256, op = BitVec.ofNat 8 k := ⟨op.toNat, op.isLt, by simp⟩
  have other : k ≠ 0xCB := fun e => h (congrArg _ e)
  obtain below | above := Nat.lt_or_gt_of_ne other
  · interval_cases k <;> rfl
  · interval_cases k <;> rfl

/-- The bytes that a step reads are the encoding of the instruction it runs, up to that instruction's length (R122, R281). -/
theorem encode_decodeBytes (b0 b1 b2 : Byte) : encode (decodeBytes b0 b1 b2) = [b0, b1, b2].take (baseLength b0) := by
  rw [decodeBytes]
  split
  case isTrue h => rw [h, encode_cbInstr]; rfl
  case isFalse h =>
    rw [baseInstr, encode_baseTable _ _ _ h]
    split
    case isTrue three => rw [encodeWord, lowByte_joinBytes, highByte_joinBytes, three]; rfl
    case isFalse short =>
      obtain ⟨pos, le⟩ := baseLength_bounds b0
      obtain one | two : baseLength b0 = 1 ∨ baseLength b0 = 2 := by omega
      · rw [one]; rfl
      · rw [two]; rfl

/-- The three bytes at hand, zeros where the list ends, are those of the list as far as it goes. -/
theorem take_three_bytes (op : Byte) (rest : List Byte) {k : Nat} (h3 : k ≤ 3) (h : k ≤ (op :: rest).length) :
    [op, rest.getD 0 0, rest.getD 1 0].take k = (op :: rest).take k := by
  match k, rest with
  | 0, _ | 1, _ | 2, _ :: _ | 3, _ :: _ :: _ => rfl
  | 2, [] | 3, [] | 3, [_] => simp at h
  | _ + 4, _ => omega

/-- The encoding of the bare prefix begins no list that has the bytes its first byte asks for. -/
theorem encode_prefixCB_ne_take (op : Byte) (rest : List Byte) (h : baseLength op ≤ (op :: rest).length) :
    encode .prefixCB ≠ (op :: rest).take (baseLength op) := by
  intro e
  have one : 1 = baseLength op := (congrArg List.length e).trans (List.length_take_of_le h)
  rw [← one] at e
  obtain rfl : 0xCB = op := List.head_eq_of_cons_eq e
  exact absurd one (by decide)

/-- A first byte and the bytes its length asks for are the encoding of a well-formed instruction, which the decoder reads off. -/
theorem decode_of_length (op : Byte) (rest : List Byte) (h : baseLength op ≤ (op :: rest).length) :
    ∃ i, WellFormed i ∧ encode i = (op :: rest).take (baseLength op) ∧
      decode (op :: rest) = .ok (i, (op :: rest).drop (baseLength op)) := by
  have enc := encode_decodeBytes op (rest.getD 0 0) (rest.getD 1 0)
  rw [take_three_bytes op rest (baseLength_bounds op).2 h] at enc
  have wf : WellFormed (decodeBytes op (rest.getD 0 0) (rest.getD 1 0)) := fun e =>
    encode_prefixCB_ne_take op rest h (e ▸ enc)
  refine ⟨_, wf, enc, ?_⟩
  conv_lhs => rw [← List.take_append_drop (baseLength op) (op :: rest), ← enc]
  exact decode_encode _ wf

/-- A first byte without the bytes its length asks for is an error, or the bare prefix. -/
theorem decode_of_short (op : Byte) (rest : List Byte) (h : (op :: rest).length < baseLength op) :
    decode (op :: rest) = .error (.operandMissing op) ∨ (op :: rest = [0xCB] ∧ decode (op :: rest) = .ok (.prefixCB, [])) := by
  by_cases hop : op = 0xCB
  · subst hop
    obtain rfl : rest = [] := List.length_eq_zero_iff.mp (Nat.lt_one_iff.mp (Nat.lt_of_succ_lt_succ (m := 1) h))
    exact .inr ⟨rfl, rfl⟩
  · left
    simp only [decode, if_neg hop]
    obtain ⟨-, le⟩ := baseLength_bounds op
    generalize baseLength op = k at *
    match k, rest with
    | 2, [] | 3, [] | 3, [_] => rfl
    | 0, _ | 1, _ | 2, _ :: _ | 3, _ :: _ :: _ | _ + 4, _ => simp only [List.length_cons] at h; omega

/-- Settles O3: what is read is the beginning of the list that the length of its first byte fixes, or the bare prefix. -/
theorem encodingADecodedInstructionGivesTheBytes : Obligations.EncodingADecodedInstructionGivesTheBytes := by
  intro bytes rest i h
  cases bytes with
  | nil => cases h
  | cons op tail =>
    obtain enough | short := le_or_gt (baseLength op) (op :: tail).length
    · obtain ⟨j, -, enc, dec⟩ := decode_of_length op tail enough
      cases dec.symm.trans h
      rw [enc, List.take_append_drop]
    · obtain e | ⟨bare, dec⟩ := decode_of_short op tail short
      · cases e.symm.trans h
      · cases dec.symm.trans h
        exact bare.symm

/-- Settles O4: three bytes are as many as any first byte asks for. -/
theorem opcodeAloneFixesTheLength : Obligations.OpcodeAloneFixesTheLength := by
  refine ⟨fun b0 b1 b2 rest => ?_, rfl⟩
  have enough : baseLength b0 ≤ (b0 :: b1 :: b2 :: rest).length :=
    (baseLength_bounds b0).2.trans (by simp)
  obtain ⟨i, wf, enc, dec⟩ := decode_of_length b0 (b1 :: b2 :: rest) enough
  exact ⟨i, wf, dec, by rw [enc, List.length_take_of_le enough]⟩

/-! The second table. -/

/-- The grid of the second table holds the instructions that the fields of their bytes give (R126, R129). -/
theorem instr_secondForm (op : Byte) : (secondForm op).instr = cbInstr op := by
  revert op
  decide

/-- Settles O24: the second table's meaning of the byte after the prefix is the meaning of its entry in the grid. -/
theorem prefixRunsTheSecondTable : Obligations.PrefixRunsTheSecondTable := by
  intro s
  generalize hop : s.readByte s.pcAfterOpcode = op
  have form : exec .prefixCB s = exec (secondForm op).instr s := hop ▸ secondTable_eq_exec _ s
  have enc := encode_cbInstr op
  have wf : WellFormed (cbInstr op) := fun e =>
    encode_prefixCB_ne_take 0xCB [op] (le_refl 2) (e ▸ enc)
  exact ⟨cbInstr op, enc, wf, rfl, instr_secondForm op ▸ form, _, form.trans (exec_instr _ s)⟩

/-! The cycle counts. -/

/-- The condition of an opcode is that of its field `cc` (R126, R260). -/
theorem conditionHolds_of_field {op : Byte} {cc : Cond} (h : fieldY op % 4 = condCode cc) (flags : Flags) :
    conditionHolds op flags = condHolds cc flags := by
  rw [conditionHolds, h]
  cases cc <;> simp [condCode, condHolds]

/-- The count of a base-table opcode, by the grid of R131. -/
def gridCycles (op : Byte) : Nat := (cycleGrid.getD (op.toNat / 16) []).getD (op.toNat % 16) 0

/-- The count of a form's instruction is read off the form's place in the tables. -/
theorem tableCycles_place (f : Form) (flags : Flags) :
    tableCycles f.instr flags =
      if f.second then if fieldZ f.op ≠ 6 then 8 else if fieldX f.op = 1 then 12 else 16
      else if isConditional f.op && !conditionHolds f.op flags then notTakenCycles f.op
      else gridCycles f.op := by
  rw [tableCycles, entryOf_instr]
  rfl

/-- The entry of a conditional opcode has two numbers, one when taken and one when not (R131). -/
theorem tableCycles_conditional {f : Form} {cc : Cond} (base : f.second = false) (conditional : isConditional f.op = true)
    (field : fieldY f.op % 4 = condCode cc) (flags : Flags) :
    tableCycles f.instr flags = if condHolds cc flags then gridCycles f.op else notTakenCycles f.op := by
  rw [tableCycles_place, base, conditional, conditionHolds_of_field field]
  cases condHolds cc flags <;> rfl

/-- The cycle tables hold of a form: its opcode byte stands where its count does (R131, R132). -/
theorem tableCycles_instr (f : Form) (flags : Flags) : tableCycles f.instr flags = f.cycles flags := by
  cases f
  case jumpIf cc _ | jumpRelIf cc _ | callIf cc _ | retIf cc =>
    refine (tableCycles_conditional (cc := cc) rfl ?_ ?_ flags).trans ?_ <;> dsimp only [Form.op, Form.cycles] <;>
      cases cc <;> rfl
  all_goals rw [tableCycles_place]
  case illegal k => fin_cases k <;> rfl
  case rotateA y => fin_cases y <;> rfl
  case alu op o => cases op <;> rcases o with (_ | _ | _ | _ | _ | _ | _) | _ <;> rfl
  case rotate op o => cases op <;> rcases o with (_ | _ | _ | _ | _ | _ | _) | _ <;> rfl
  case testBit b o | resetBit b o | setBit b o => cases b <;> rcases o with (_ | _ | _ | _ | _ | _ | _) | _ <;> rfl
  case inc o | dec o => rcases o with (_ | _ | _ | _ | _ | _ | _) | _ <;> rfl
  case load dst src => cases dst <;> cases src <;> rfl
  case loadIndHL r | storeIndHL r => cases r <;> rfl
  case loadAMoveHL up | storeAMoveHL up => cases up <;> rfl
  case addHL p | incReg16 p | decReg16 p | push p | pop p => cases p <;> rfl
  case restart b => cases b <;> rfl
  case' aluImm op _ => cases op
  case' loadImm r _ => cases r
  case' loadImm16 p _ => cases p
  case' loadA m | storeA m => cases m
  all_goals
    dsimp only [Form.second, Form.op]
    rfl

/-- Settles O28: the count that an instruction reports is its form's, which the tables give. -/
theorem reportedCyclesAreTheTables : Obligations.ReportedCyclesAreTheTables := by
  intro i s t h hx
  obtain ⟨f, rfl⟩ := exists_form h
  rw [exec_instr] at hx
  cases hx
  exact (tableCycles_instr f s.f).symm

end Sys2Proof.Machine
end

section
/-! PROOFS. The 8-bit loads (40_load8.md): each is a form, so its bytes are the form's (`encode_instr`) and its meaning the
form's effect on the fetched state (`exec_instr`). Where a statement takes one from `HL`, the form adds `moveStep false`. -/

namespace Sys2Proof.Machine

/-- `HL-` moves down by one (R157, R158). -/
theorem add_moveStep_false (w : Word) : w + moveStep false = w - 1 := (BitVec.sub_eq_add_neg w 1).symm

/-- Settles O7: the three forms that load a register. -/
theorem loadsIntoRegisters : Obligations.LoadsIntoRegisters := by
  intro s dst src n
  exact ⟨encode_instr (.load dst src), exec_instr (.load dst src) s,
    encode_instr (.loadIndHL dst), exec_instr (.loadIndHL dst) s,
    encode_instr (.loadImm dst n), exec_instr (.loadImm dst n) s⟩

/-- Settles O8: `LD A,(..)` at each of its addresses, and the two forms that move `HL`. -/
theorem loadsOfAFromMemory : Obligations.LoadsOfAFromMemory := by
  intro s n addr
  have down := exec_instr (.loadAMoveHL false) s
  rw [Form.effect, add_moveStep_false] at down
  exact ⟨encode_instr (.loadA .bc), exec_instr (.loadA .bc) s,
    encode_instr (.loadA .de), exec_instr (.loadA .de) s,
    encode_instr (.loadA (.direct addr)), exec_instr (.loadA (.direct addr)) s,
    encode_instr (.loadA (.high n)), exec_instr (.loadA (.high n)) s,
    encode_instr (.loadA .highC), exec_instr (.loadA .highC) s,
    encode_instr (.loadAMoveHL true), exec_instr (.loadAMoveHL true) s,
    encode_instr (.loadAMoveHL false), down⟩

/-- Settles O9: the stores at `HL`, `LD (..),A` at each of its addresses, and the two forms that move `HL`. -/
theorem loadsIntoMemory : Obligations.LoadsIntoMemory := by
  intro s src n addr
  have down := exec_instr (.storeAMoveHL false) s
  rw [Form.effect, add_moveStep_false] at down
  exact ⟨encode_instr (.storeIndHL src), exec_instr (.storeIndHL src) s,
    encode_instr (.storeImm n), exec_instr (.storeImm n) s,
    encode_instr (.storeA .bc), exec_instr (.storeA .bc) s,
    encode_instr (.storeA .de), exec_instr (.storeA .de) s,
    encode_instr (.storeA (.direct addr)), exec_instr (.storeA (.direct addr)) s,
    encode_instr (.storeA (.high n)), exec_instr (.storeA (.high n)) s,
    encode_instr (.storeA .highC), exec_instr (.storeA .highC) s,
    encode_instr (.storeAMoveHL true), exec_instr (.storeAMoveHL true) s,
    encode_instr (.storeAMoveHL false), down⟩

end Sys2Proof.Machine
end

section
/-! PROOFS. The 16-bit loads and the stack (41_load16_stack.md). The stack is stated twice, by the operations of R170 and by
the bytes they store and read; a word pushed on plain storage is popped again. -/

namespace Sys2Proof.Machine

/-! The stack as the bytes it stores and reads (R170). -/

theorem push16_eq_pushed (s : State) (v : Word) : s.push16 v = pushed s v := by
  have down : s.sp - 1 - 1 = s.sp - 2 := BitVec.sub_sub ..
  simp only [State.push16, State.writeByte_sp, down]
  rfl

theorem pushed_sp (s : State) (v : Word) : (pushed s v).sp = s.sp - 2 := State.writeByte_sp ..

theorem exec_push (p : StackReg) (s : State) :
    exec (.push p) s = .next ((pushed (s.fetched 0) (s.stackReg p)).reports 16) := by
  rw [← push16_eq_pushed]
  exact exec_instr (.push p) s

theorem exec_pop (p : StackReg) (s : State) :
    exec (.pop p) s = .next (({ s.fetched 0 with sp := s.sp + 2 }.setStackReg p (stackTop s)).reports 12) :=
  exec_instr (.pop p) s

/-! `F` as a byte and back (R12, R13). -/

/-- The bits of `F` as a byte: the flags over zeros, and nothing is lost. -/
theorem toByte_bits (f : Flags) :
    f.toByte.toNat % 16 = 0 ∧ flagsOfByte f.toByte = f ∧
      f.toByte.getLsbD 7 = f.z ∧ f.toByte.getLsbD 6 = f.n ∧ f.toByte.getLsbD 5 = f.h ∧ f.toByte.getLsbD 4 = f.c := by
  obtain ⟨z, n, h, c⟩ := f
  revert z n h c
  decide

/-! The stack pairs (R125). -/

theorem setStackReg_sp (s : State) (p : StackReg) (v : Word) : (s.setStackReg p v).sp = s.sp := by cases p <;> rfl

/-- A pair whose halves are whole registers reads what was written to it (R11). -/
theorem stackReg_setStackReg (s : State) {p : StackReg} (v : Word) (h : p ≠ .af) : (s.setStackReg p v).stackReg p = v := by
  cases p with
  | af => exact absurd rfl h
  | bc | de | hl => exact joinBytes_high_low v

/-- `AF` written with what it reads in `s` has the `A` and the flags of `s`. -/
theorem setStackReg_af_stackReg (s t : State) :
    (t.setStackReg .af (s.stackReg .af)).a = s.a ∧ (t.setStackReg .af (s.stackReg .af)).f = s.f := by
  obtain ⟨-, flags, -⟩ := toByte_bits s.f
  exact ⟨highByte_joinBytes s.a s.f.toByte, (congrArg flagsOfByte (lowByte_joinBytes s.a s.f.toByte)).trans flags⟩

/-! Two bytes on plain storage, one above the other. -/

theorem plainStorage_bounds {s : State} {x : Word} (h : plainStorage s x) :
    0x8000 ≤ x.toNat ∧ x.toNat ≠ 0xFF46 ∧ x.toNat < 0xFFFF := by
  unfold plainStorage at h
  omega

/-- A store above the cartridge image leaves which addresses are plain storage. -/
theorem plainStorage_writeByte (s : State) {x : Word} (v : Byte) (y : Word) (h : 0x8000 ≤ x.toNat) :
    plainStorage (s.writeByte x v) y ↔ plainStorage s y := by
  obtain ⟨-, -, size⟩ := s.writeByte_sameImage x v
  unfold plainStorage
  rw [(writeByte_storeFrame s x v).bank h, size]

/-- Neighbours are different bytes of storage (R58, R103). -/
theorem homeAddress_succ_ne (bank : BankState) (n : Nat) : homeAddress bank (n + 1) ≠ homeAddress bank n := by
  unfold homeAddress
  cases bank <;> dsimp only <;> split_ifs <;> omega

/-- A store to plain storage does not reach the byte above it. -/
theorem not_storeReaches_above {s : State} {x : Word} (h : plainStorage s x) : ¬storeReaches s.bank x (x + 1) := by
  obtain ⟨above, trigger, below⟩ := plainStorage_bounds h
  have next : (x + 1).toNat = x.toNat + 1 := BitVec.toNat_add_of_lt (show x.toNat + 1 < 65536 by omega)
  rw [storeReaches, if_neg (by omega), next]
  rintro (same | ⟨rfl, -⟩)
  · exact homeAddress_succ_ne s.bank x.toNat same
  · exact trigger rfl

/-- A word pushed on plain storage is on top of the stack: the low byte, stored last, does not reach the high byte. -/
theorem stackTop_pushed {s : State} (v : Word) (high : plainStorage s (s.sp - 1)) (low : plainStorage s (s.sp - 2)) :
    stackTop (pushed s v) = v := by
  have up : s.sp - 2 + 1 = s.sp - 1 := by bv_omega
  obtain ⟨above, -⟩ := plainStorage_bounds high
  have lowStays : plainStorage { { s with sp := s.sp - 1 }.writeByte (s.sp - 1) (v.extractLsb' 8 8) with sp := s.sp - 2 }
      (s.sp - 2) := (plainStorage_writeByte _ _ _ above).mpr low
  have apart := not_storeReaches_above lowStays
  rw [up] at apart
  have highByteRead : (pushed s v).readByte (s.sp - 1) = v.extractLsb' 8 8 :=
    (readByte_writeByte_of_not_reaches _ apart).trans (readByte_writeByte_of_plainStorage _ high)
  have lowByteRead : (pushed s v).readByte (s.sp - 2) = v.extractLsb' 0 8 :=
    readByte_writeByte_of_plainStorage _ lowStays
  rw [stackTop, pushed_sp, up, highByteRead, lowByteRead]
  exact joinBytes_high_low v

/-! The statements. -/

/-- Settles O13: POP finds the pushed word on top of the stack, and writing a pair reads back. -/
theorem pushThenPopGivesTheWordBack : Obligations.PushThenPopGivesTheWordBack := by
  intro s t u p q high low hpush hpop
  obtain ⟨onTop, down⟩ : stackTop t = s.stackReg p ∧ t.sp = s.sp - 2 := by
    cases (exec_push p s).symm.trans hpush
    exact ⟨stackTop_pushed _ high low, pushed_sp _ _⟩
  rw [exec_pop, onTop] at hpop
  cases hpop
  refine ⟨stackReg_setStackReg _ _, ?_, down, ?_⟩
  · rintro rfl rfl
    exact setStackReg_af_stackReg s { t.fetched 0 with sp := t.sp + 2 }
  · rw [State.reports_sp, setStackReg_sp, down]
    exact BitVec.sub_add_cancel _ _

/-- Settles O11: the three forms; `writeWord` stores the low byte first by definition. -/
theorem sixteenBitLoads : Obligations.SixteenBitLoads := by
  intro s p n
  exact ⟨encode_instr (.loadImm16 p n), exec_instr (.loadImm16 p n) s, encode_instr (.storeSP n),
    exec_instr (.storeSP n) s, encode_instr .loadSPHL, exec_instr .loadSPHL s⟩

/-- Settles O12: `exec_push` and `exec_pop` name the bytes of the stack, `toByte_bits` the bits of `F`. -/
theorem pushAndPop : Obligations.PushAndPop := by
  intro s p f w
  refine ⟨encode_instr (.push p), exec_push p s, encode_instr (.pop p), exec_pop p s, fun q hq => ?_, rfl, rfl, toByte_bits f⟩
  cases q with
  | sp => exact absurd rfl hq
  | bc | de | hl => rfl

end Sys2Proof.Machine
end

section
/-! PROOFS. 8-bit arithmetic and logic (42_alu8.md): what each operation gives on natural numbers, then the instructions, which
are forms, and decimal adjustment of packed BCD sums and differences. -/

namespace Sys2Proof.Machine

/-! The operations on natural numbers. -/

/-- The test for Z. -/
theorem beq_zero_iff (r : Byte) : (r == 0) = true ↔ r.toNat = 0 := by
  rw [beq_iff_eq, ← BitVec.toNat_inj]
  rfl

theorem add8_result (a v : Byte) (cin : Bool) : AddResult a v (bitVal cin) (add8 a v cin).1 (add8 a v cin).2 :=
  ⟨BitVec.toNat_ofNat _ _, beq_zero_iff _, rfl, decide_eq_true_iff, decide_eq_true_iff⟩

theorem sub8_result (a v : Byte) (cin : Bool) : SubResult a v (bitVal cin) (sub8 a v cin).1 (sub8 a v cin).2 := by
  refine ⟨?_, beq_zero_iff _, rfl, decide_eq_true_iff, decide_eq_true_iff⟩
  have hcin : bitVal cin ≤ 1 := by cases cin <;> decide
  simp only [sub8, BitVec.toNat_sub, BitVec.toNat_ofNat]
  omega

theorem and8_flags (a v : Byte) : LogicFlags (a &&& v) true (and8 a v).2 := ⟨beq_zero_iff _, rfl, rfl, rfl⟩

theorem xor8_flags (a v : Byte) : LogicFlags (a ^^^ v) false (xor8 a v).2 := ⟨beq_zero_iff _, rfl, rfl, rfl⟩

theorem or8_flags (a v : Byte) : LogicFlags (a ||| v) false (or8 a v).2 := ⟨beq_zero_iff _, rfl, rfl, rfl⟩

theorem dec8_toNat (o : Byte) (f : Flags) : (dec8 o f).1.toNat = (o.toNat + 255) % 256 :=
  (BitVec.toNat_sub o 1).trans (by rw [Nat.add_comm]; rfl)

/-- The test for a low nibble 0. -/
theorem lowNibble_beq_zero_iff (o : Byte) : (lowNibble o == 0x00) = true ↔ o.toNat % 16 = 0 := beq_iff_eq

/-- DAA after an addition corrects a digit that overflowed or is none (R205). -/
theorem daa8_after_add (a : Byte) {f : Flags} (hn : f.n = false) :
    (daa8 a f).1.toNat = (a.toNat + (if f.c = true ∨ a.toNat > 0x99 then 0x60 else 0) +
      (if f.h = true ∨ a.toNat % 16 > 0x09 then 0x06 else 0)) % 256 ∧
    ((daa8 a f).2.c = true ↔ f.c = true ∨ a.toNat > 0x99) := by
  refine ⟨?_, by simp [daa8, hn]⟩
  rw [Nat.add_assoc, ← lowNibble]
  simp only [daa8, hn, Bool.not_false, Bool.true_and, Bool.or_eq_true, decide_eq_true_eq, Bool.false_eq_true, if_false]
  split_ifs <;> exact BitVec.toNat_add _ _

/-- DAA after a subtraction corrects a digit that borrowed (R205). -/
theorem daa8_after_sub (a : Byte) {f : Flags} (hn : f.n = true) :
    (daa8 a f).1.toNat =
      (a.toNat + 512 - (if f.c = true then 0x60 else 0) - (if f.h = true then 0x06 else 0)) % 256 ∧
    (daa8 a f).2.c = f.c := by
  refine ⟨?_, by simp [daa8, hn]⟩
  simp only [daa8, hn, Bool.not_true, Bool.false_and, Bool.or_false, if_true]
  split_ifs <;> bv_omega

/-! The instructions. -/

@[simp] theorem State.operand_fetched (s : State) (k : Nat) (o : Operand8) : (s.fetched k).operand o = s.operand o := by
  cases o with
  | reg r => exact s.reg_fetched k r
  | indHL => rfl

theorem exec_alu (op : AluOp) (o : Operand8) (s : State) :
    exec (.alu op o) s =
      .next { s.fetched 0 with
        a := (aluResult op s.a (s.operand o) s.f).1, f := (aluResult op s.a (s.operand o) s.f).2
        cycles := if o = .indHL then 8 else 4 } := by
  rw [← s.operand_fetched 0 o]
  exact exec_instr (.alu op o) s

theorem exec_aluImm (op : AluOp) (n : Byte) (s : State) :
    exec (.aluImm op n) s =
      .next { s.fetched 1 with a := (aluResult op s.a n s.f).1, f := (aluResult op s.a n s.f).2, cycles := 8 } :=
  exec_instr (.aluImm op n) s

theorem exec_inc (o : Operand8) (s : State) :
    exec (.inc o) s =
      .next (({ s.fetched 0 with f := (inc8 (s.operand o) s.f).2 }.setOperand o (inc8 (s.operand o) s.f).1).reports
        (if o = Operand8.indHL then 12 else 4)) := by
  rw [← s.operand_fetched 0 o]
  exact exec_instr (.inc o) s

theorem exec_dec (o : Operand8) (s : State) :
    exec (.dec o) s =
      .next (({ s.fetched 0 with f := (dec8 (s.operand o) s.f).2 }.setOperand o (dec8 (s.operand o) s.f).1).reports
        (if o = Operand8.indHL then 12 else 4)) := by
  rw [← s.operand_fetched 0 o]
  exact exec_instr (.dec o) s

/-- Settles O15: each form's result is `add8`, from the carry flag for `ADC`. -/
theorem addAndAdc : Obligations.AddAndAdc := by
  intro s o n
  exact ⟨_, _, _, _, _, _, _, _,
    add8_result s.a (s.operand o) false, encode_instr (.alu .add o), exec_alu .add o s,
    add8_result s.a n false, encode_instr (.aluImm .add n), exec_aluImm .add n s,
    add8_result s.a (s.operand o) s.f.c, encode_instr (.alu .adc o), exec_alu .adc o s,
    add8_result s.a n s.f.c, encode_instr (.aluImm .adc n), exec_aluImm .adc n s⟩

/-- Settles O16: each form's result is `sub8`, from the carry flag for `SBC`; `CP` takes its flags alone. -/
theorem subSbcAndCp : Obligations.SubSbcAndCp := by
  intro s o n
  exact ⟨_, _, _, _, _, _, _, _,
    sub8_result s.a (s.operand o) false, encode_instr (.alu .sub o), exec_alu .sub o s,
    encode_instr (.alu .cp o), exec_alu .cp o s,
    sub8_result s.a n false, encode_instr (.aluImm .sub n), exec_aluImm .sub n s,
    encode_instr (.aluImm .cp n), exec_aluImm .cp n s,
    sub8_result s.a (s.operand o) s.f.c, encode_instr (.alu .sbc o), exec_alu .sbc o s,
    sub8_result s.a n s.f.c, encode_instr (.aluImm .sbc n), exec_aluImm .sbc n s⟩

/-- Settles O17: each form's flags are those of `and8`, `xor8` or `or8`. -/
theorem andXorOr : Obligations.AndXorOr := by
  intro s o n
  exact ⟨_, _, _, _, _, _,
    and8_flags s.a (s.operand o), encode_instr (.alu .and o), exec_alu .and o s,
    and8_flags s.a n, encode_instr (.aluImm .and n), exec_aluImm .and n s,
    xor8_flags s.a (s.operand o), encode_instr (.alu .xor o), exec_alu .xor o s,
    xor8_flags s.a n, encode_instr (.aluImm .xor n), exec_aluImm .xor n s,
    or8_flags s.a (s.operand o), encode_instr (.alu .or o), exec_alu .or o s,
    or8_flags s.a n, encode_instr (.aluImm .or n), exec_aluImm .or n s⟩

/-- Settles O18: the flags of `inc8` and `dec8` come from the operand before the store. -/
theorem incAndDecOfBytes : Obligations.IncAndDecOfBytes := by
  intro s o
  exact ⟨_, _, (inc8 (s.operand o) s.f).2, (dec8 (s.operand o) s.f).2,
    BitVec.toNat_add _ _, beq_zero_iff _, rfl, beq_iff_eq, rfl, encode_instr (.inc o), exec_inc o s,
    dec8_toNat _ s.f, beq_zero_iff _, rfl, lowNibble_beq_zero_iff _, rfl, encode_instr (.dec o), exec_dec o s⟩

/-- Settles O19: the four meanings are the forms' effects, and DAA's branches are `daa8_after_add` and `daa8_after_sub`. -/
theorem daaCplScfCcf : Obligations.DaaCplScfCcf := by
  refine ⟨rfl, rfl, rfl, rfl, fun s => ⟨exec_instr .cpl s, exec_instr .scf s, exec_instr .ccf s⟩, fun s => ?_⟩
  refine ⟨_, _, exec_instr .daa s, beq_zero_iff _, rfl, rfl, fun hn high low hhigh hlow => ?_, daa8_after_sub s.a⟩
  rw [hhigh, hlow]
  exact daa8_after_add s.a hn

/-! Decimal adjustment of packed BCD numbers (R205). -/

theorem bcd_toNat {x : Nat} (hx : x < 100) : (bcd x).toNat = 16 * (x / 10) + x % 10 := by
  rw [bcd, BitVec.toNat_ofNat]
  omega

/-- A byte that holds two decimal digits is the packed BCD of their number. -/
theorem eq_bcd_of_digits {r : Byte} {x tens units : Nat} (hx : x = 10 * tens + units) (hu : units < 10)
    (hr : r.toNat = 16 * tens + units) : r = bcd x := by
  have value : 16 * (x / 10) + x % 10 = r.toNat := by omega
  rw [bcd, value, BitVec.ofNat_toNat, BitVec.setWidth_eq]

section
variable {x y cin : Nat} {r : Byte} {f : Flags}

/-- DAA makes the sum of two packed BCD numbers their BCD sum: it corrects a digit just where the decimal digits carry. -/
theorem daa8_of_addResult (hx : x < 100) (hy : y < 100) (hcin : cin ≤ 1) (h : AddResult (bcd x) (bcd y) cin r f) :
    (daa8 r f).1 = bcd ((x + y + cin) % 100) ∧ ((daa8 r f).2.c = true ↔ x + y + cin ≥ 100) := by
  obtain ⟨hr, -, hn, hh, hc⟩ := h
  rw [bcd_toNat hx, bcd_toNat hy] at hr hh hc
  have sum : (f.c = true ∨ r.toNat > 0x99) ↔ 16 * (x / 10) + x % 10 + (16 * (y / 10) + y % 10) + cin > 0x99 := by
    rw [hc]; omega
  have tens : (f.c = true ∨ r.toNat > 0x99) ↔ x + y + cin ≥ 100 := by rw [sum]; omega
  have units : (f.h = true ∨ r.toNat % 16 > 0x09) ↔ x % 10 + y % 10 + cin ≥ 10 := by rw [hh]; omega
  obtain ⟨value, carry⟩ := daa8_after_add r hn
  simp only [tens, units] at value
  refine ⟨eq_bcd_of_digits
    (tens := x / 10 + y / 10 + (if x % 10 + y % 10 + cin ≥ 10 then 1 else 0) - if x + y + cin ≥ 100 then 10 else 0)
    (units := x % 10 + y % 10 + cin - if x % 10 + y % 10 + cin ≥ 10 then 10 else 0) ?_ ?_ (value.trans ?_),
    carry.trans tens⟩
  all_goals
    clear hh hc sum tens units value
    split_ifs <;> omega

/-- DAA makes the difference of two packed BCD numbers their BCD difference: it corrects a digit just where the decimal digits
borrow. -/
theorem daa8_of_subResult (hx : x < 100) (hy : y < 100) (hcin : cin ≤ 1) (h : SubResult (bcd x) (bcd y) cin r f) :
    (daa8 r f).1 = bcd ((x + 200 - y - cin) % 100) ∧ ((daa8 r f).2.c = true ↔ x < y + cin) := by
  obtain ⟨hr, -, hn, hh, hc⟩ := h
  rw [bcd_toNat hx, bcd_toNat hy] at hr hh hc
  have tens : f.c = true ↔ x < y + cin := by rw [hc]; omega
  have units : f.h = true ↔ x % 10 < y % 10 + cin := by rw [hh]; omega
  obtain ⟨value, borrow⟩ := daa8_after_sub r hn
  simp only [tens, units] at value
  refine ⟨eq_bcd_of_digits
    (tens := x / 10 + (if x < y + cin then 10 else 0) - y / 10 - if x % 10 < y % 10 + cin then 1 else 0)
    (units := x % 10 + (if x % 10 < y % 10 + cin then 10 else 0) - y % 10 - cin) ?_ ?_ (value.trans ?_),
    by rw [borrow, tens]⟩
  all_goals
    clear hh hc tens units value
    split_ifs <;> omega

end

theorem carryOf_le_one (f : Flags) : carryOf f ≤ 1 := by
  unfold carryOf
  split <;> decide

/-- DAA run after an operation on an immediate adjusts what the operation left in `A` and the flags. -/
theorem daa_after_aluImm {op : AluOp} {n : Byte} {s t u : State} (hop : exec (.aluImm op n) s = .next t)
    (hdaa : exec .daa t = .next u) :
    u.a = (daa8 (aluResult op s.a n s.f).1 (aluResult op s.a n s.f).2).1 ∧
      u.f = (daa8 (aluResult op s.a n s.f).1 (aluResult op s.a n s.f).2).2 := by
  cases (exec_aluImm op n s).symm.trans hop
  cases (exec_instr .daa _).symm.trans hdaa
  exact ⟨rfl, rfl⟩

/-- Settles O20: the operation's result meets `AddResult` or `SubResult`, and DAA adjusts such results. -/
theorem daaAdjustsDecimalArithmetic : Obligations.DaaAdjustsDecimalArithmetic := by
  intro s t u x y hx hy ha
  refine ⟨fun hop hdaa => ?_, fun hop hdaa => ?_, fun hop hdaa => ?_, fun hop hdaa => ?_⟩
  all_goals
    obtain ⟨value, flags⟩ := daa_after_aluImm hop hdaa
    rw [value, flags, ha]
  · exact daa8_of_addResult hx hy (Nat.zero_le 1) (add8_result (bcd x) (bcd y) false)
  · exact daa8_of_addResult hx hy (carryOf_le_one s.f) (add8_result (bcd x) (bcd y) s.f.c)
  · rw [show (x + 100 - y) % 100 = (x + 200 - y - 0) % 100 by omega]
    exact daa8_of_subResult hx hy (Nat.zero_le 1) (sub8_result (bcd x) (bcd y) false)
  · exact daa8_of_subResult hx hy (carryOf_le_one s.f) (sub8_result (bcd x) (bcd y) s.f.c)

end Sys2Proof.Machine
end

section
/-! PROOFS. The flags of every instruction (R185): a form has a row (`Form.flagRow`), the table gives its instruction the same
(`flagRow_instr`), and its effect on the flags is what the row says (`effect_allowed`). -/

namespace Sys2Proof.Machine

/-- The row of a form: what it does to Z, N, H and C (R185). -/
def Form.flagRow : Form → FlagRow
  | .daa => { z := .computed, n := .kept, h := .cleared, c := .computed }
  | .cpl => { z := .kept, n := .set, h := .set, c := .kept }
  | .scf => { z := .kept, n := .cleared, h := .cleared, c := .set }
  | .ccf => { z := .kept, n := .cleared, h := .cleared, c := .computed }
  | .rotateA _ => { z := .cleared, n := .cleared, h := .cleared, c := .computed }
  | .alu op _ | .aluImm op _ => aluFlagRow (aluCode op)
  | .inc _ => { z := .computed, n := .cleared, h := .computed, c := .kept }
  | .dec _ => { z := .computed, n := .set, h := .computed, c := .kept }
  | .rotate op _ => { z := .computed, n := .cleared, h := .cleared, c := if op = .swap then .cleared else .computed }
  | .testBit .. => { z := .computed, n := .cleared, h := .set, c := .kept }
  | .addHL _ => { z := .kept, n := .cleared, h := .computed, c := .computed }
  | .loadHLSP _ | .addSP _ => { z := .cleared, n := .cleared, h := .computed, c := .computed }
  | .pop .af => { z := .computed, n := .computed, h := .computed, c := .computed }
  | _ => noFlags

/-- The flag table holds of a form: its opcode byte has the fields that the table tests. -/
theorem flagRow_instr (f : Form) : flagRow f.instr = f.flagRow := by
  rw [flagRow, entryOf_instr]
  cases f
  case illegal k => fin_cases k <;> rfl
  case rotateA y => fin_cases y <;> rfl
  case alu op o => cases op <;> rcases o with (_ | _ | _ | _ | _ | _ | _) | _ <;> rfl
  case rotate op o => cases op <;> rcases o with (_ | _ | _ | _ | _ | _ | _) | _ <;> rfl
  case testBit b o | resetBit b o | setBit b o => cases b <;> rcases o with (_ | _ | _ | _ | _ | _ | _) | _ <;> rfl
  case inc o | dec o => rcases o with (_ | _ | _ | _ | _ | _ | _) | _ <;> rfl
  case load dst src => cases dst <;> cases src <;> rfl
  case loadIndHL r | storeIndHL r => cases r <;> rfl
  case loadAMoveHL up | storeAMoveHL up => cases up <;> rfl
  case addHL p | incReg16 p | decReg16 p | push p | pop p => cases p <;> rfl
  case restart b => cases b <;> rfl
  case' aluImm op _ => cases op
  case' loadImm r _ => cases r
  case' loadImm16 p _ => cases p
  case' loadA m | storeA m => cases m
  case' jumpIf cc _ | jumpRelIf cc _ | callIf cc _ | retIf cc => cases cc
  all_goals
    dsimp only [Form.second, Form.op, Form.flagRow]
    rfl

/-! The flags under the operations that change none. -/

@[simp] theorem State.setOperand_f (s : State) (o : Operand8) (v : Byte) : (s.setOperand o v).f = s.f := by
  cases o with
  | reg r => exact s.setReg_f r v
  | indHL => exact s.writeByte_f _ v

@[simp] theorem State.setReg16_f (s : State) (p : Reg16) (v : Word) : (s.setReg16 p v).f = s.f := by cases p <;> rfl

@[simp] theorem State.writeWord_f (s : State) (x v : Word) : (s.writeWord x v).f = s.f := by simp [State.writeWord]

@[simp] theorem callTo_f (s : State) (addr : Word) : (callTo addr s).f = s.f := s.push16_f s.pc

/-- Whether the flags change as a row says. -/
def FlagRow.Allows (row : FlagRow) (before after : Flags) : Prop :=
  row.z.allows before.z after.z ∧ row.n.allows before.n after.n ∧ row.h.allows before.h after.h ∧
    row.c.allows before.c after.c

/-- Flags that stay are what the row of no change says. -/
theorem noFlags_allows {before after : Flags} (h : after = before) : noFlags.Allows before after := by
  subst h
  exact ⟨rfl, rfl, rfl, rfl⟩

theorem noFlags_allows_ite (c : Prop) [Decidable c] {s t : State} (h : t.f = s.f) :
    noFlags.Allows s.f (if c then t else s).f := by
  split
  case isTrue => exact noFlags_allows h
  case isFalse => exact noFlags_allows rfl

/-- The two-operand operations do to the flags what their rows say (R187 to R194). -/
theorem aluResult_allowed (op : AluOp) (a v : Byte) (f : Flags) :
    (aluFlagRow (aluCode op)).Allows f (aluResult op a v f).2 := by
  cases op <;> simp [aluCode, aluFlagRow, FlagRow.Allows, FlagEffect.allows, aluResult, add8, sub8, and8, xor8, or8]

/-- The effect of a form does to the flags what the form's row says. -/
theorem effect_allowed (f : Form) (origin : Word) (t : State) : f.flagRow.Allows t.f (f.effect origin t).f := by
  cases f with
  | nop | stop | di | reti | illegal | loadSPHL | loadA | jump | jumpRel | jumpHL | ret => exact noFlags_allows rfl
  | halt =>
    simp only [Form.effect]
    split <;> exact noFlags_allows rfl
  | ei | jumpIf | jumpRelIf | retIf => exact noFlags_allows_ite _ rfl
  | callIf => exact noFlags_allows_ite _ (callTo_f t _)
  | call | restart => exact noFlags_allows (callTo_f t _)
  | load | loadIndHL | loadImm => exact noFlags_allows (t.setReg_f _ _)
  | storeIndHL | storeImm | storeA | storeAMoveHL => exact noFlags_allows (t.writeByte_f _ _)
  | loadAMoveHL => exact noFlags_allows rfl
  | loadImm16 | incReg16 | decReg16 => exact noFlags_allows (t.setReg16_f _ _)
  | storeSP => exact noFlags_allows (t.writeWord_f _ _)
  | push => exact noFlags_allows (t.push16_f _)
  | resetBit | setBit => exact noFlags_allows (t.setOperand_f _ _)
  | pop p =>
    cases p with
    | af => exact ⟨trivial, trivial, trivial, trivial⟩
    | bc | de | hl => exact noFlags_allows rfl
  | alu op o => exact aluResult_allowed op t.a (t.operand o) t.f
  | aluImm op n => exact aluResult_allowed op t.a n t.f
  | daa => exact ⟨trivial, rfl, rfl, trivial⟩
  | cpl | scf => exact ⟨rfl, rfl, rfl, rfl⟩
  | ccf | rotateA => exact ⟨rfl, rfl, rfl, trivial⟩
  | inc o | dec o =>
    simp only [Form.effect, State.setOperand_f]
    exact ⟨trivial, rfl, trivial, rfl⟩
  | rotate op o =>
    simp only [Form.effect, State.setOperand_f]
    cases op with
    | swap => exact ⟨trivial, rfl, rfl, rfl⟩
    | rlc | rrc | rl | rr | sla | sra | srl => exact ⟨trivial, rfl, rfl, trivial⟩
  | testBit => exact ⟨trivial, rfl, rfl, rfl⟩
  | addHL | loadHLSP | addSP => exact ⟨rfl, rfl, trivial, trivial⟩

/-- Settles O29: the table's row of an instruction is that of its form, and the form's effect keeps to it. -/
theorem flagsChangeAsTheTableSays : Obligations.FlagsChangeAsTheTableSays := by
  intro i s t h hx
  obtain ⟨f, rfl⟩ := exists_form h
  rw [exec_instr] at hx
  cases hx
  rw [flagRow_instr]
  exact effect_allowed f s.pc (s.fetched f.fetches)

end Sys2Proof.Machine
end

section
/-! PROOFS. 16-bit arithmetic (43_alu16.md): what `add16` gives on natural numbers, then the three families, which are forms
whose fetch leaves the pairs they read. -/

namespace Sys2Proof.Machine

/-- `add16` on natural numbers: H is the carry of bit 11, C that of bit 15, and Z is kept (R221). -/
theorem add16_result (a v : Word) (f : Flags) :
    (add16 a v f).1.toNat = (a.toNat + v.toNat) % 65536 ∧ (add16 a v f).2.z = f.z ∧ (add16 a v f).2.n = false ∧
    ((add16 a v f).2.h = true ↔ a.toNat % 4096 + v.toNat % 4096 > 0x0FFF) ∧
    ((add16 a v f).2.c = true ↔ a.toNat + v.toNat > 0xFFFF) :=
  ⟨BitVec.toNat_add a v, rfl, rfl, decide_eq_true_iff, decide_eq_true_iff⟩

@[simp] theorem State.reg16_fetched (s : State) (k : Nat) (p : Reg16) : (s.fetched k).reg16 p = s.reg16 p := by
  cases p <;> rfl

theorem exec_addHL (p : Reg16) (s : State) :
    exec (.addHL p) s =
      .next (({ s.fetched 0 with f := (add16 (s.reg16 .hl) (s.reg16 p) s.f).2 }.setReg16 .hl
        (add16 (s.reg16 .hl) (s.reg16 p) s.f).1).reports 8) := by
  rw [← s.reg16_fetched 0 p]
  exact exec_instr (.addHL p) s

theorem exec_incReg16 (p : Reg16) (s : State) :
    exec (.incReg16 p) s = .next (((s.fetched 0).setReg16 p (s.reg16 p + 1)).reports 8) := by
  rw [← s.reg16_fetched 0 p]
  exact exec_instr (.incReg16 p) s

theorem exec_decReg16 (p : Reg16) (s : State) :
    exec (.decReg16 p) s = .next (((s.fetched 0).setReg16 p (s.reg16 p - 1)).reports 8) := by
  rw [← s.reg16_fetched 0 p]
  exact exec_instr (.decReg16 p) s

/-- Settles O21: the sum and its flags are those of `add16`; the steps of a pair write the pair alone. -/
theorem sixteenBitArithmetic : Obligations.SixteenBitArithmetic := by
  intro s p
  obtain ⟨sum, zero, negative, half, carry⟩ := add16_result (s.reg16 .hl) (s.reg16 p) s.f
  exact ⟨_, _, sum, zero, negative, half, carry, encode_instr (.addHL p), exec_addHL p s,
    encode_instr (.incReg16 p), exec_incReg16 p s, encode_instr (.decReg16 p), exec_decReg16 p s⟩

end Sys2Proof.Machine
end

section
/-! PROOFS. Rotates, shifts and bits (44_rotate_shift_bit.md). Every rotate and shift by one is a rotate through the carry,
`.rl` or `.rr`, for the bit that enters; `RES` and `SET` use the mask of their bit. The instructions are forms. -/

namespace Sys2Proof.Machine

/-! The bits of a rotate or shift. -/

/-- The bit that enters a rotate to the left enters at bit 0. -/
theorem getLsbD_entersLow (cin : Bool) (i : Nat) :
    (if cin then (0x01 : Byte) else 0x00).getLsbD i = (cin && decide (i = 0)) := by
  cases cin with
  | false => exact BitVec.getLsbD_zero
  | true => exact BitVec.getLsbD_one

/-- The bit that enters a rotate to the right enters at bit 7. -/
theorem getLsbD_entersHigh (cin : Bool) (i : Nat) :
    (if cin then (0x80 : Byte) else 0x00).getLsbD i = (cin && decide (i = 7)) := by
  cases cin with
  | false => exact BitVec.getLsbD_zero
  | true => exact (BitVec.getLsbD_twoPow 7 i).trans (by simp only [eq_comm]; rfl)

/-- The rotate to the left through the carry (R237). -/
theorem rotResult_rl_bits (o : Byte) (cin : Bool) :
    RotBits .rl o cin (rotResult .rl o cin).1 (rotResult .rl o cin).2 := by
  simp only [RotBits, rotResult, BitVec.getLsbD_or, BitVec.getLsbD_shiftLeft, getLsbD_entersLow]
  refine ⟨by simp, fun i hi => ?_, trivial⟩
  have inside : i + 1 < 8 := by omega
  simp [inside]

/-- The rotate to the right through the carry (R238). -/
theorem rotResult_rr_bits (o : Byte) (cin : Bool) :
    RotBits .rr o cin (rotResult .rr o cin).1 (rotResult .rr o cin).2 := by
  simp only [RotBits, rotResult, BitVec.getLsbD_or, BitVec.getLsbD_ushiftRight, getLsbD_entersHigh]
  refine ⟨by simp, fun i hi => ?_, trivial⟩
  simp [Nat.ne_of_lt hi, Nat.add_comm]

/-- SWAP moves each bit by four places, round the end (R241). -/
theorem getLsbD_swap (o : Byte) {i : Nat} (hi : i < 8) : (o <<< 4 ||| o >>> 4).getLsbD i = o.getLsbD ((i + 4) % 8) := by
  rw [BitVec.getLsbD_or, BitVec.getLsbD_shiftLeft, BitVec.getLsbD_ushiftRight]
  obtain low | high : i < 4 ∨ 4 ≤ i := by omega
  · rw [Nat.mod_eq_of_lt (by omega)]
    simp [low, Nat.add_comm]
  · rw [show (i + 4) % 8 = i - 4 by omega, o.getLsbD_of_ge (4 + i) (by omega)]
    simp [high, hi]

theorem rotResult_sla (o : Byte) (cin : Bool) : rotResult .sla o cin = rotResult .rl o false := by simp [rotResult]

theorem rotResult_srl (o : Byte) (cin : Bool) : rotResult .srl o cin = rotResult .rr o false := by simp [rotResult]

theorem rotResult_sra (o : Byte) (cin : Bool) : rotResult .sra o cin = rotResult .rr o (o.getLsbD 7) := by
  have sign : o &&& 0x80 = if o.getLsbD 7 then 0x80 else 0x00 := BitVec.and_twoPow o 7
  simp only [rotResult, sign]

/-- The results are those of the rules (R235 to R242). -/
theorem rotResult_bits (op : RotOp) (o : Byte) (cin : Bool) :
    RotBits op o cin (rotResult op o cin).1 (rotResult op o cin).2 := by
  cases op with
  | rl => exact rotResult_rl_bits o cin
  | rr => exact rotResult_rr_bits o cin
  | rlc =>
    obtain ⟨entered, moved, out⟩ := rotResult_rl_bits o (o.getLsbD 7)
    refine ⟨fun i hi => ?_, out⟩
    cases i with
    | zero => exact entered
    | succ j =>
      rw [show (j + 1 + 7) % 8 = j by omega]
      exact moved j (Nat.lt_of_succ_lt_succ hi)
  | rrc =>
    obtain ⟨entered, moved, out⟩ := rotResult_rr_bits o (o.getLsbD 0)
    refine ⟨fun i hi => ?_, out⟩
    obtain rfl | below : i = 7 ∨ i < 7 := by omega
    · exact entered
    · rw [Nat.mod_eq_of_lt (by omega)]
      exact moved i below
  | sla =>
    rw [rotResult_sla]
    exact rotResult_rl_bits o false
  | srl =>
    rw [rotResult_srl]
    exact rotResult_rr_bits o false
  | sra =>
    rw [rotResult_sra]
    exact rotResult_rr_bits o (o.getLsbD 7)
  | swap => exact ⟨fun _ => getLsbD_swap o, rfl⟩

/-! The mask of a bit. -/

theorem getLsbD_bitMask (k : Nat) {i : Nat} (hi : i < 8) : (bitMask k).getLsbD i = decide (i = k) := by
  rw [bitMask, BitVec.getLsbD_ofNat, Nat.testBit_two_pow, decide_eq_true hi, Bool.true_and]
  simp only [eq_comm]

theorem getLsbD_and_not_bitMask (o : Byte) (k : Nat) {i : Nat} (hi : i < 8) :
    (o &&& ~~~(bitMask k)).getLsbD i = if i = k then false else o.getLsbD i := by
  rw [BitVec.getLsbD_and, BitVec.getLsbD_not, getLsbD_bitMask k hi]
  split <;> simp [*]

theorem getLsbD_or_bitMask (o : Byte) (k : Nat) {i : Nat} (hi : i < 8) :
    (o ||| bitMask k).getLsbD i = if i = k then true else o.getLsbD i := by
  rw [BitVec.getLsbD_or, getLsbD_bitMask k hi]
  split <;> simp [*]

/-! The instructions. -/

theorem exec_rotate (op : RotOp) (o : Operand8) (s : State) :
    exec (.rotate op o) s =
      .next (({ s.fetched 1 with f := (rotFlagged op (s.operand o) s.f).2 }.setOperand o
        (rotFlagged op (s.operand o) s.f).1).reports (if o = Operand8.indHL then 16 else 8)) := by
  rw [← s.operand_fetched 1 o]
  exact exec_instr (.rotate op o) s

theorem exec_testBit (b : Index8) (o : Operand8) (s : State) :
    exec (.testBit b o) s =
      .next { s.fetched 1 with
        f := bitFlags b.toNat (s.operand o) s.f, cycles := if o = Operand8.indHL then 12 else 8 } := by
  rw [← s.operand_fetched 1 o]
  exact exec_instr (.testBit b o) s

theorem exec_resetBit (b : Index8) (o : Operand8) (s : State) :
    exec (.resetBit b o) s =
      .next (((s.fetched 1).setOperand o (s.operand o &&& ~~~(bitMask b.toNat))).reports
        (if o = Operand8.indHL then 16 else 8)) := by
  rw [← s.operand_fetched 1 o]
  exact exec_instr (.resetBit b o) s

theorem exec_setBit (b : Index8) (o : Operand8) (s : State) :
    exec (.setBit b o) s =
      .next (((s.fetched 1).setOperand o (s.operand o ||| bitMask b.toNat)).reports
        (if o = Operand8.indHL then 16 else 8)) := by
  rw [← s.operand_fetched 1 o]
  exact exec_instr (.setBit b o) s

/-- The rotate of `A` of a field `y` moves the bits as that field's rotate of the second table does (R231 to R234). -/
theorem rotateA_rotates (y : Fin 4) (s : State) :
    ∃ (v : Byte) (c : Bool), RotBits (rotOfField y) s.a s.f.c v c ∧
      exec (Form.rotateA y).instr s =
        .next { s.fetched 0 with a := v, f := { z := false, n := false, h := false, c := c }, cycles := 4 } :=
  ⟨_, _, rotResult_bits (rotOfField y) s.a s.f.c, exec_instr (.rotateA y) s⟩

/-- Settles O22: the result is `rotResult`; the rotates of `A` are those of the fields 0 to 3. -/
theorem rotatesAndShifts : Obligations.RotatesAndShifts := by
  refine ⟨fun s op o => ?_, ?_⟩
  · exact ⟨_, _, _, rotResult_bits op (s.operand o) s.f.c, beq_zero_iff _, encode_instr (.rotate op o), exec_rotate op o s⟩
  · rw [List.forall_mem_cons, List.forall_mem_cons, List.forall_mem_cons, List.forall_mem_singleton]
    exact ⟨⟨encode_instr (.rotateA 0), rotateA_rotates 0⟩, ⟨encode_instr (.rotateA 1), rotateA_rotates 1⟩,
      ⟨encode_instr (.rotateA 2), rotateA_rotates 2⟩, ⟨encode_instr (.rotateA 3), rotateA_rotates 3⟩⟩

/-- Settles O23: the masks of `RES` and `SET` change their bit alone. -/
theorem bitResAndSet : Obligations.BitResAndSet := by
  intro s b o
  exact ⟨_, _, fun _ => getLsbD_and_not_bitMask (s.operand o) b.toNat, fun _ => getLsbD_or_bitMask (s.operand o) b.toNat,
    encode_instr (.testBit b o), exec_testBit b o s, encode_instr (.resetBit b o), exec_resetBit b o s,
    encode_instr (.setBit b o), exec_setBit b o s⟩

end Sys2Proof.Machine
end

section
/-! PROOFS. Control transfer (45_control_transfer.md): jumps, calls and returns are forms, and the conditional ones answer by
their condition, `done_by_condition`. `jumpBy` and `callTo` start from the `PC` that the fetch moved past the instruction. -/

namespace Sys2Proof.Machine

/-- A conditional transfer answers the state, and reports the cycles, of the branch its condition takes (R131). -/
theorem done_by_condition (c : Prop) [Decidable c] (m n : Nat) (taken onward : State) :
    done (if c then m else n) (if c then taken else onward) = .next (if c then taken.reports m else onward.reports n) := by
  split <;> rfl

/-! The jumps. -/

/-- The four conditions of R260. -/
theorem condHolds_iff (f : Flags) :
    (condHolds .nz f = true ↔ f.z = false) ∧ (condHolds .z f = true ↔ f.z = true) ∧
    (condHolds .nc f = true ↔ f.c = false) ∧ (condHolds .c f = true ↔ f.c = true) :=
  ⟨.of_eq (Bool.not_eq_true' f.z), .rfl, .of_eq (Bool.not_eq_true' f.c), .rfl⟩

theorem exec_jumpIf (cc : Cond) (addr : Word) (s : State) :
    exec (.jumpIf cc addr) s = .next
      (if condHolds cc s.f then { s.fetched 2 with pc := addr, cycles := 16 } else (s.fetched 2).reports 12) :=
  (exec_instr (.jumpIf cc addr) s).trans (done_by_condition ..)

theorem exec_jumpRelIf (cc : Cond) (e : Byte) (s : State) :
    exec (.jumpRelIf cc e) s = .next
      (if condHolds cc s.f then { s.fetched 1 with pc := s.pcAfterOpcode + 1 + e.signExtend 16, cycles := 12 }
       else (s.fetched 1).reports 8) :=
  (exec_instr (.jumpRelIf cc e) s).trans (done_by_condition ..)

/-- Settles O25: the five forms of jump; `jumpBy` adds the displacement to the address after the instruction. -/
theorem jumps : Obligations.Jumps := by
  intro s cc addr e
  obtain ⟨nz, z, nc, c⟩ := condHolds_iff s.f
  exact ⟨nz, z, nc, c, encode_instr (.jump addr), exec_instr (.jump addr) s,
    encode_instr (.jumpIf cc addr), exec_jumpIf cc addr s, encode_instr .jumpHL, exec_instr .jumpHL s,
    encode_instr (.jumpRel e), exec_instr (.jumpRel e) s, encode_instr (.jumpRelIf cc e), exec_jumpRelIf cc e s⟩

/-! The calls and returns. -/

/-- A call by an instruction with `k` operand bytes pushes the address after it (R266, R273). -/
theorem callTo_fetched (s : State) (k : Nat) (addr : Word) :
    callTo addr (s.fetched k) = { pushed (s.fetched k) (s.pcAfterOpcode + BitVec.ofNat 16 k) with pc := addr } := by
  rw [callTo, push16_eq_pushed]
  rfl

theorem exec_call (addr : Word) (s : State) :
    exec (.callA16 addr) s = .next { pushed (s.fetched 2) (s.pcAfterOpcode + 2) with pc := addr, cycles := 24 } :=
  (exec_instr (.call addr) s).trans (congrArg (done 24) (callTo_fetched s 2 addr))

theorem exec_callIf (cc : Cond) (addr : Word) (s : State) :
    exec (.callIf cc addr) s = .next
      (if condHolds cc s.f then { pushed (s.fetched 2) (s.pcAfterOpcode + 2) with pc := addr, cycles := 24 }
       else (s.fetched 2).reports 12) := by
  refine (exec_instr (.callIf cc addr) s).trans ?_
  rw [Form.effect, callTo_fetched]
  exact done_by_condition ..

theorem exec_retIf (cc : Cond) (s : State) :
    exec (.retIf cc) s = .next
      (if condHolds cc s.f then { s.fetched 0 with pc := stackTop s, sp := s.sp + 2, cycles := 20 }
       else (s.fetched 0).reports 8) :=
  (exec_instr (.retIf cc) s).trans (done_by_condition ..)

/-- `RST` is one byte long, so it pushes the address after its opcode. -/
theorem exec_restart (y : Index8) (s : State) :
    exec (.restart y) s = .next
      { pushed (s.fetched 0) s.pcAfterOpcode with pc := BitVec.ofNat 16 (8 * y.toNat), cycles := 16 } := by
  have called := callTo_fetched s 0 (restartTarget y)
  rw [BitVec.add_zero] at called
  exact (exec_instr (.restart y) s).trans (congrArg (done 16) called)

/-- Settles O26: calls and RST push as `callTo_fetched` says; the returns pop the top of the stack by definition. -/
theorem callsAndReturns : Obligations.CallsAndReturns := by
  intro s cc addr y
  exact ⟨encode_instr (.call addr), exec_call addr s, encode_instr (.callIf cc addr), exec_callIf cc addr s,
    encode_instr .ret, exec_instr .ret s, encode_instr (.retIf cc), exec_retIf cc s,
    encode_instr .reti, exec_instr .reti s, encode_instr (.restart y), exec_restart y s⟩

end Sys2Proof.Machine
end

section
/-! PROOFS. The delay of EI (46_cpu_control.md). A step of a running processor is `exec`, then `catchUp`: there the countdown
moves first (`imeTick`), the devices leave the processor alone, and the interrupt check acts by cases (`interruptCheck_cases`). -/

namespace Sys2Proof.Machine

/-! The instruction that a step runs. -/

/-- A fetch never gives the bare prefix: the byte after it picks the entry of the second table (R135, R281). -/
theorem fetchInstr_wellFormed (s : State) : WellFormed (fetchInstr s) := fun e =>
  encode_prefixCB_ne_take (s.readByte s.pc) [s.readByte s.pcAfterOpcode, s.readByte (s.pcAfterOpcode + 1)]
    (baseLength_bounds _).2 (e ▸ encode_decodeBytes _ _ _)

/-- All that the host's change of the buttons can change (R305, R420). -/
theorem takeInput_shape (s : State) : ∃ buttons inputs,
    takeInput s = { s with buttons := buttons, buttonInputs := inputs } := by
  unfold takeInput
  split <;> exact ⟨_, _, rfl⟩

/-- A step of a running processor runs the instruction at `PC` and catches up (R281, R305). -/
theorem step_of_running {s t : State} (running : s.halted = false) (h : step s = .next t) :
    ∃ buttons inputs ran, exec (fetchInstr s) { s with buttons := buttons, buttonInputs := inputs } = .next ran ∧
      t = catchUp ran := by
  obtain ⟨buttons, inputs, e⟩ := takeInput_shape s
  have cpu : cpuStep (takeInput s) = exec (fetchInstr s) { s with buttons := buttons, buttonInputs := inputs } := by
    rw [e, cpuStep, if_neg (ne_true_of_eq_false running)]
    rfl
  rw [step, cpu] at h
  split at h
  case h_1 ran he =>
    cases h
    exact ⟨buttons, inputs, ran, he, rfl⟩
  case h_2 => cases h
  case h_3 => cases h

/-! The processor under the devices (R307). -/

section
variable (c : Nat) (s : State)

@[simp] theorem advanceDevices_pc : (advanceDevices c s).pc = s.pc := by
  obtain ⟨_, _, _, _, _, _, _, _, -, e⟩ := advanceDevices_shape c s; rw [e]
@[simp] theorem advanceDevices_sp : (advanceDevices c s).sp = s.sp := by
  obtain ⟨_, _, _, _, _, _, _, _, -, e⟩ := advanceDevices_shape c s; rw [e]
@[simp] theorem advanceDevices_ime : (advanceDevices c s).ime = s.ime := by
  obtain ⟨_, _, _, _, _, _, _, _, -, e⟩ := advanceDevices_shape c s; rw [e]
@[simp] theorem advanceDevices_imeDelay : (advanceDevices c s).imeDelay = s.imeDelay := by
  obtain ⟨_, _, _, _, _, _, _, _, -, e⟩ := advanceDevices_shape c s; rw [e]
@[simp] theorem advanceDevices_halted : (advanceDevices c s).halted = s.halted := by
  obtain ⟨_, _, _, _, _, _, _, _, -, e⟩ := advanceDevices_shape c s; rw [e]
@[simp] theorem advanceDevices_clock : (advanceDevices c s).clock = s.clock := by
  obtain ⟨_, _, _, _, _, _, _, _, -, e⟩ := advanceDevices_shape c s; rw [e]
@[simp] theorem advanceDevices_cycles : (advanceDevices c s).cycles = s.cycles := by
  obtain ⟨_, _, _, _, _, _, _, _, -, e⟩ := advanceDevices_shape c s; rw [e]

end

/-! The interrupt check. -/

/-- A pending value that is not 0 has a lowest bit to dispatch (R304, R312). -/
theorem exists_lowestIrq {s : State} (h : s.pending ≠ 0) : ∃ i, lowestIrq s.pending = some i := by
  refine Option.ne_none_iff_exists'.mp fun nothing => h (BitVec.eq_of_getLsbD_eq fun i hi => ?_)
  refine Eq.trans ?_ BitVec.getLsbD_zero.symm
  obtain low | high := Nat.lt_or_ge i 5
  · exact lowestIrq_eq_none nothing i low
  · have masked : (0x1F : Byte).getLsbD i = false := by interval_cases i <;> rfl
    rw [State.pending, BitVec.getLsbD_and, masked, Bool.and_false]

@[simp] theorem wake_ime (s : State) : (wake s).ime = s.ime := by unfold wake; split <;> rfl
@[simp] theorem wake_imeDelay (s : State) : (wake s).imeDelay = s.imeDelay := by unfold wake; split <;> rfl
@[simp] theorem wake_clock (s : State) : (wake s).clock = s.clock := by unfold wake; split <;> rfl
@[simp] theorem wake_cycles (s : State) : (wake s).cycles = s.cycles := by unfold wake; split <;> rfl

/-- All that the interrupt check can do (R310): nothing, a waking, or a dispatch. -/
theorem interruptCheck_cases (s : State) :
    (s.pending = 0 ∧ interruptCheck s = (s, 0)) ∨
    (s.pending ≠ 0 ∧ s.ime = false ∧ interruptCheck s = (wake s, 0)) ∨
    (s.pending ≠ 0 ∧ s.ime = true ∧
      ∃ i, lowestIrq s.pending = some i ∧ interruptCheck s = (takeInterrupt i (wake s), 20)) := by
  by_cases nothing : s.pending = 0
  · exact .inl ⟨nothing, if_pos nothing⟩
  · cases hi : s.ime with
    | false => exact .inr (.inl ⟨nothing, rfl, by rw [interruptCheck, if_neg nothing]; simp [hi]⟩)
    | true =>
      obtain ⟨i, lowest⟩ := exists_lowestIrq nothing
      exact .inr (.inr ⟨nothing, rfl, i, lowest, by rw [interruptCheck, if_neg nothing]; simp [hi, lowest]⟩)

/-- With `IME` clear a running processor has neither a dispatch nor a waking: only the clock moves. -/
theorem checkInterrupts_of_masked (c : Nat) {s : State} (running : s.halted = false) (masked : s.ime = false) :
    checkInterrupts c s = { s with clock := s.clock + c } := by
  have quiet : interruptCheck s = (s, 0) := by
    obtain ⟨-, e⟩ | ⟨-, -, e⟩ | ⟨-, ime, -⟩ := interruptCheck_cases s
    · exact e
    · rw [e, wake, if_neg (ne_true_of_eq_false running)]
    · exact absurd (ime.symm.trans masked) (by decide)
  rw [checkInterrupts, quiet]
  rfl

theorem takeInterrupt_clock (i : Nat) (s : State) : (takeInterrupt i s).clock = s.clock := State.push16_clock s s.pc
theorem takeInterrupt_cycles (i : Nat) (s : State) : (takeInterrupt i s).cycles = s.cycles := State.push16_cycles s s.pc

/-- With `IME` set the check leaves it set, or dispatches, which the clock shows by 20 cycles (R311). -/
theorem checkInterrupts_of_ime (c : Nat) {s : State} (ime : s.ime = true) :
    (checkInterrupts c s).imeDelay = s.imeDelay ∧ (checkInterrupts c s).cycles = s.cycles ∧
      ((checkInterrupts c s).ime = true ∨ (checkInterrupts c s).clock = s.clock + c + 20) := by
  obtain ⟨-, e⟩ | ⟨-, masked, -⟩ | ⟨-, -, i, -, e⟩ := interruptCheck_cases s
  · rw [checkInterrupts, e]
    exact ⟨rfl, rfl, .inl ime⟩
  · exact absurd (ime.symm.trans masked) (by decide)
  · rw [checkInterrupts, e]
    simp [takeInterrupt_imeDelay, takeInterrupt_clock, takeInterrupt_cycles]

/-! The countdown. -/

/-- Where the countdown does not end, `IME` stays clear after a running processor's instruction, so nothing is dispatched. -/
theorem catchUp_of_masked {s : State} {delay : Fin 3} (running : s.halted = false) (masked : s.ime = false)
    (ticked : imeTick s = { s with imeDelay := delay }) :
    (catchUp s).ime = false ∧ (catchUp s).imeDelay = delay ∧ (catchUp s).pc = s.pc ∧ (catchUp s).sp = s.sp := by
  rw [catchUp, ticked, checkInterrupts_of_masked] <;> simp [running, masked]

/-- At the end of the countdown `IME` is set, and the check may dispatch at once (R306). -/
theorem catchUp_of_imeDelay_one {s : State} (h : s.imeDelay = 1) :
    (catchUp s).imeDelay = 0 ∧ (catchUp s).cycles = s.cycles ∧
      ((catchUp s).ime = true ∨ (catchUp s).clock = s.clock + s.cycles + 20) := by
  have ticked : imeTick s = { s with imeDelay := 0, ime := true } := by simp [imeTick, h]
  rw [catchUp, ticked]
  simpa using checkInterrupts_of_ime s.cycles
    (s := advanceDevices s.cycles { s with imeDelay := 0, ime := true }) (advanceDevices_ime _ _)

/-! DI, EI and the instruction after it. -/

/-- The fetch of an instruction of one byte. -/
theorem State.fetched_zero_pc (s : State) : (s.fetched 0).pc = s.pcAfterOpcode := BitVec.add_zero _

theorem exec_di (s : State) : exec .di s = .next { s.fetched 0 with ime := false, imeDelay := 0, cycles := 4 } :=
  exec_instr .di s

/-- EI starts the countdown unless one is under way (R286). -/
theorem exec_ei (s : State) :
    exec .ei s = .next { s.fetched 0 with imeDelay := if s.imeDelay = 0 then 2 else s.imeDelay, cycles := 4 } := by
  show done 4 (if s.imeDelay = 0 then { s.fetched 0 with imeDelay := 2 } else s.fetched 0) = _
  split <;> rfl

/-- DI alone stops a countdown at its last step: EI does not start it again, and no other instruction touches it. -/
theorem exec_imeDelay_one {i : Instr} {s t : State} (wf : WellFormed i) (di : i ≠ .di) (hx : exec i s = .next t)
    (h : s.imeDelay = 1) : t.imeDelay = 1 := by
  by_cases ei : i = .ei
  · subst ei
    cases (exec_ei s).symm.trans hx
    simp [h]
  · obtain ⟨-, imeDelay, -⟩ := controlStateChangesOnlyByItsInstructions i s t wf hx
    exact (imeDelay di ei).trans h

/-- Settles O36: EI's own step moves its countdown from 2 to 1, the next instruction's from 1 to 0 unless it is DI, which
leaves no countdown to move. -/
theorem eiTakesEffectOneInstructionLate : Obligations.EiTakesEffectOneInstructionLate := by
  intro s t running h
  obtain ⟨buttons, inputs, ran, hx, rfl⟩ := step_of_running running h
  refine ⟨fun ei masked still => ?_, fun di delay => ?_, fun di => ?_⟩
  · rw [ei, exec_ei] at hx
    cases hx
    rw [← State.fetched_zero_pc s]
    exact catchUp_of_masked running masked (by simp [imeTick, still])
  · have wf := fetchInstr_wellFormed s
    have one : ran.imeDelay = 1 := exec_imeDelay_one wf di hx delay
    obtain ⟨-, -, -, clock, -⟩ := controlStateChangesOnlyByItsInstructions _ _ _ wf hx
    obtain ⟨ended, cycles, enabled⟩ := catchUp_of_imeDelay_one one
    rw [clock, ← cycles] at enabled
    exact ⟨ended, enabled⟩
  · rw [di, exec_di] at hx
    cases hx
    rw [← State.fetched_zero_pc s]
    exact catchUp_of_masked running rfl rfl

end Sys2Proof.Machine
end

section
/-! PROOFS. The signed offsets of `SP` (41_load16_stack.md, 43_alu16.md). -/

namespace Sys2Proof.Machine

/-- Settles O14: both forms take the sum and the flags of `addSigned`. -/
theorem signedOffsetsOfSP : Obligations.SignedOffsetsOfSP := fun s e =>
  ⟨(addSigned s.sp e).2, rfl, rfl, decide_eq_true_iff, decide_eq_true_iff, encode_instr (.loadHLSP e),
    exec_instr (.loadHLSP e) s, encode_instr (.addSP e), exec_instr (.addSP e) s⟩

end Sys2Proof.Machine
end

section
/-! PROOFS. The step and the interrupts (46_cpu_control.md, 60_exceptions.md): processor control, the order of a step, the
dispatch, and what a step leaves pending. `pending` is read off IF by its address (`pending_eq`); a step is `cpuStep`, which
always answers (`cpuStep_answers`), and then `catchUp`, whose interrupt check acts by cases (`interruptCheck_cases`). -/

namespace Sys2Proof.Machine

/-! Pending interrupts (R304). -/

/-- IF at its address (R38, R61). -/
theorem readByte_if (s : State) : s.readByte 0xFF0F = s.iflags := readByte_ioAddress s (off := 0x0F) (by decide)

theorem pending_eq (s : State) : s.pending = s.ie &&& s.readByte 0xFF0F &&& 0x1F := by rw [readByte_if, State.pending]

theorem getLsbD_pending (s : State) {i : Nat} (h : i < 5) :
    s.pending.getLsbD i = (s.ie &&& s.readByte 0xFF0F).getLsbD i := by
  have kept : (0x1F : Byte).getLsbD i = true := by interval_cases i <;> rfl
  rw [pending_eq, BitVec.getLsbD_and, kept, Bool.and_true]

theorem pending_of_disabled {s : State} (h : s.ie &&& 0x1F = 0) : s.pending = 0 := by
  rw [State.pending, BitVec.and_assoc, BitVec.and_comm s.iflags, ← BitVec.and_assoc, h]
  exact BitVec.zero_and

/-! Processor control. -/

/-- The two branches of HALT (R283). -/
theorem exec_halt (s : State) :
    exec .halt s = .next (if s.ime = false ∧ s.pending ≠ 0 then { s.fetched 0 with haltBug := true, cycles := 4 }
      else { s.fetched 0 with halted := true, pc := s.pc, cycles := 4 }) :=
  (exec_instr .halt s).trans (congrArg Host.Outcome.next (apply_ite (State.reports · 4) _ _ _))

/-- An illegal opcode is one byte, and is logged with its address (R288). -/
theorem illegal_logs {x : Byte × Instr} (hx : x ∈ Instr.illegals) (s : State) :
    encode x.2 = [x.1] ∧
      exec x.2 s = .next { s.fetched 0 with illegalLog := s.illegalLog ++ [(x.1, s.pc)], cycles := 4 } := by
  obtain ⟨k, rfl⟩ := List.mem_iff_get.mp hx
  exact ⟨encode_instr (.illegal k), exec_instr (.illegal k) s⟩

/-- Settles O27: each is a form; HALT's branches are `exec_halt`, EI is `exec_ei`, an illegal opcode `illegal_logs`. -/
theorem processorControl : Obligations.ProcessorControl := by
  refine ⟨rfl, rfl, rfl, rfl, rfl, rfl, fun s => ⟨exec_instr .nop s, exec_instr .stop s, fun masked raised => ?_,
    fun quiet => ?_, exec_di s, exec_ei s, fun x hx => illegal_logs hx s⟩⟩
  · rw [← pending_eq] at raised
    rw [exec_halt, if_pos ⟨masked, raised⟩]
  · rw [← pending_eq] at quiet
    rw [exec_halt, if_neg]
    rintro ⟨masked, raised⟩
    exact quiet.elim (fun ime => absurd (masked.symm.trans ime) (by decide)) raised

/-! The parts of a step (R305, R306). -/

/-- Three bytes decode to what a fetch of them reads (R122, R281). -/
theorem decode_three (b0 b1 b2 : Byte) :
    decode [b0, b1, b2] = .ok (decodeBytes b0 b1 b2, [b0, b1, b2].drop (baseLength b0)) := by
  have wf : WellFormed (decodeBytes b0 b1 b2) := fun e =>
    encode_prefixCB_ne_take b0 [b1, b2] (baseLength_bounds b0).2 (e ▸ encode_decodeBytes b0 b1 b2)
  have back := decode_encode ([b0, b1, b2].drop (baseLength b0)) wf
  rwa [encode_decodeBytes, List.take_append_drop] at back

/-- Settles O6: the definition of a fetch with `pcAfterOpcode` written out. -/
theorem fetchAdvancesPcUnlessHaltBug : Obligations.FetchAdvancesPcUnlessHaltBug := fun _ _ => rfl

/-- The countdown of EI: 2 becomes 1, 1 becomes 0 and sets `IME` (R306). -/
theorem imeTick_eq (s : State) :
    imeTick s =
      { s with imeDelay := if s.imeDelay = 2 then 1 else 0, ime := s.ime || decide (s.imeDelay = 1) } := by
  obtain e | e | e : s.imeDelay = 0 ∨ s.imeDelay = 1 ∨ s.imeDelay = 2 := by
    generalize s.imeDelay = delay
    revert delay
    decide
  all_goals simp [imeTick, e]
  rw [← e]

@[simp] theorem imeTick_clock (s : State) : (imeTick s).clock = s.clock := by rw [imeTick_eq]
@[simp] theorem imeTick_cycles (s : State) : (imeTick s).cycles = s.cycles := by rw [imeTick_eq]

theorem imeTick_imeDelay_ne_two (s : State) : (imeTick s).imeDelay ≠ 2 := by
  rw [imeTick_eq]
  show (if s.imeDelay = 2 then (1 : Fin 3) else 0) ≠ 2
  split <;> decide

@[simp] theorem wake_halted (s : State) : (wake s).halted = false := by
  unfold wake
  split
  · rfl
  · exact Bool.eq_false_iff.mpr ‹_›

section
variable (s : State)

@[simp] theorem interruptCheck_clock : (interruptCheck s).1.clock = s.clock := by
  obtain ⟨-, e⟩ | ⟨-, -, e⟩ | ⟨-, -, i, -, e⟩ := interruptCheck_cases s <;> rw [e] <;> simp [takeInterrupt_clock]
@[simp] theorem interruptCheck_cycles : (interruptCheck s).1.cycles = s.cycles := by
  obtain ⟨-, e⟩ | ⟨-, -, e⟩ | ⟨-, -, i, -, e⟩ := interruptCheck_cases s <;> rw [e] <;> simp [takeInterrupt_cycles]
@[simp] theorem interruptCheck_imeDelay : (interruptCheck s).1.imeDelay = s.imeDelay := by
  obtain ⟨-, e⟩ | ⟨-, -, e⟩ | ⟨-, -, i, -, e⟩ := interruptCheck_cases s <;> rw [e] <;> simp [takeInterrupt_imeDelay]

end

/-- A dispatch costs 20 cycles, which the devices see too (R305, R311). -/
theorem checkInterrupts_of_dispatch (c : Nat) {s : State} (ime : s.ime = true) (raised : s.pending ≠ 0) :
    checkInterrupts c s = { advanceDevices 20 (interruptCheck s).1 with clock := s.clock + c + 20 } := by
  have dispatched : (interruptCheck s).2 = 20 := by
    obtain ⟨nothing, -⟩ | ⟨-, masked, -⟩ | ⟨-, -, i, -, e⟩ := interruptCheck_cases s
    · exact absurd nothing raised
    · exact absurd (ime.symm.trans masked) (by decide)
    · rw [e]
  simp [checkInterrupts, dispatched]

/-- Where nothing is dispatched the devices see no more cycles (R305, R310). -/
theorem checkInterrupts_of_no_dispatch (c : Nat) {s : State} (h : s.ime = false ∨ s.pending = 0) :
    checkInterrupts c s = { (interruptCheck s).1 with clock := s.clock + c } := by
  have undisturbed : (interruptCheck s).2 = 0 := by
    obtain ⟨-, e⟩ | ⟨-, -, e⟩ | ⟨raised, ime, -⟩ := interruptCheck_cases s
    · rw [e]
    · rw [e]
    · exact absurd h (not_or.mpr ⟨ne_false_of_eq_true ime, raised⟩)
  simp [checkInterrupts, undisturbed]

theorem checkInterrupts_of_quiet (c : Nat) {s : State} (h : s.pending = 0) :
    checkInterrupts c s = { s with clock := s.clock + c } := by
  have quiet : interruptCheck s = (s, 0) := if_pos h
  simp [checkInterrupts, quiet]

/-- The processor's part of a step always answers; it leaves the clock and reports 4 to 24 cycles, in fours (R130, R300). -/
theorem cpuStep_answers (s : State) :
    ∃ ran, cpuStep s = .next ran ∧ ran.clock = s.clock ∧ ran.cycles % 4 = 0 ∧ 4 ≤ ran.cycles ∧ ran.cycles ≤ 24 := by
  have fours (f : Form) (flags : Flags) : f.cycles flags % 4 = 0 ∧ 4 ≤ f.cycles flags := by
    cases f with
    | loadA m | storeA m => cases m <;> simp [Form.cycles, AddrForm.cycles]
    | inc o | dec o | testBit _ o | alu _ o | rotate _ o | resetBit _ o | setBit _ o => cases o <;> simp [Form.cycles]
    | jumpIf cc _ | jumpRelIf cc _ | callIf cc _ | retIf cc =>
      simp only [Form.cycles]
      split <;> decide
    | _ => simp [Form.cycles]
  unfold cpuStep
  split
  case isTrue => exact ⟨_, rfl, rfl, show 4 % 4 = 0 from rfl, Nat.le_refl 4, show 4 ≤ 24 by decide⟩
  case isFalse =>
    obtain ⟨f, e⟩ := exists_form_exec (fetchInstr s) s
    have timed : (f.effect s.pc (s.fetched f.fetches)).timed = s.timed := (effect_changesOnly f s.pc _).timed
    exact ⟨_, e, congrArg Prod.fst timed, (fours f s.f).1, (fours f s.f).2, cycles_le f s.f⟩

theorem takeInput_clock (s : State) : (takeInput s).clock = s.clock := by
  obtain ⟨_, _, e⟩ := takeInput_shape s
  rw [e]

/-- A step is the processor's part, then the catching up (R305). -/
theorem step_eq_next_iff {s t : State} : step s = .next t ↔ ∃ ran, cpuStep (takeInput s) = .next ran ∧ t = catchUp ran := by
  obtain ⟨ran, e, -⟩ := cpuStep_answers (takeInput s)
  simp [step, e, eq_comm]

/-- Settles O5: a step is `cpuStep` and `catchUp` by definition, and `decode_three` names the instruction. -/
theorem stepRunsTheDecodedInstruction : Obligations.StepRunsTheDecodedInstruction := by
  refine ⟨fun s i rest running decoded => ?_, fun s halted => ?_, ?_, fun c s => ⟨_, rfl⟩⟩
  · obtain ⟨buttons, inputs, e⟩ := takeInput_shape s
    obtain rfl : fetchInstr s = i := congrArg Prod.fst (Except.ok.inj ((decode_three _ _ _).symm.trans decoded))
    have cpu : cpuStep (takeInput s) = exec (fetchInstr s) (takeInput s) := by
      rw [e, cpuStep, if_neg (ne_true_of_eq_false running)]
      rfl
    rewrite [step, cpu]
    rfl
  · obtain ⟨buttons, inputs, e⟩ := takeInput_shape s
    refine step_eq_next_iff.mpr ⟨_, ?_, rfl⟩
    rw [e, cpuStep, if_pos halted]
    rfl
  · rintro t ticked caught checked d hticked rfl hchecked
    obtain rfl : imeTick t = ticked := hticked.symm
    have clock : checked.clock = t.clock := by
      have kept := interruptCheck_clock (advanceDevices t.cycles (imeTick t))
      rwa [advanceDevices_clock, imeTick_clock, advanceDevices, hchecked] at kept
    have later : (if d = 0 then checked else advanceDevices d checked).clock = t.clock := by
      split
      · exact clock
      · exact (advanceDevices_clock d checked).trans clock
    rw [catchUp, checkInterrupts, advanceDevices, hchecked, ← later]
    rfl

/-- Settles O37: the processor's part answers (`cpuStep_answers`), and the check dispatches or does not. -/
theorem everyStepCompletesAndCountsItsCycles : Obligations.EveryStepCompletesAndCountsItsCycles := by
  intro s
  obtain ⟨ran, cpu, clock, fours, low, high⟩ := cpuStep_answers (takeInput s)
  rw [takeInput_clock] at clock
  have cycles : (catchUp ran).cycles = ran.cycles := by
    rw [catchUp, checkInterrupts]
    dsimp only
    split <;> simp
  have delay : (catchUp ran).imeDelay = (imeTick ran).imeDelay := by
    rw [catchUp, checkInterrupts]
    dsimp only
    split <;> simp
  refine ⟨ran, _, catchUp ran, cpu, rfl, step_eq_next_iff.mpr ⟨ran, cpu, rfl⟩, cycles, cycles ▸ fours, cycles ▸ low,
    cycles ▸ high, fun dispatch => ?_, fun quiet => ?_, delay ▸ imeTick_imeDelay_ne_two ran⟩
  · rw [← pending_eq] at dispatch
    rw [cycles, catchUp, checkInterrupts_of_dispatch _ dispatch.1 dispatch.2, advanceDevices_clock, imeTick_clock, clock]
  · rw [← pending_eq] at quiet
    rw [cycles, catchUp, checkInterrupts_of_no_dispatch _ quiet, advanceDevices_clock, imeTick_clock, clock]

/-! Interrupts. -/

/-- What is pending after the check is masked, and the processor runs (R310, R314). -/
theorem checkInterrupts_settles (c : Nat) (s : State) (h : (checkInterrupts c s).pending ≠ 0) :
    (checkInterrupts c s).ime = false ∧ (checkInterrupts c s).halted = false := by
  obtain ⟨nothing, e⟩ | ⟨-, masked, e⟩ | ⟨-, -, i, -, e⟩ := interruptCheck_cases s <;> rw [checkInterrupts, e] at h ⊢
  · exact absurd nothing h
  · exact ⟨(wake_ime s).trans masked, wake_halted s⟩
  · exact ⟨advanceDevices_ime 20 _, (advanceDevices_halted 20 _).trans ((takeInterrupt_halted i _).trans (wake_halted s))⟩

/-- Settles O35: the check that ends the step settles what is pending. -/
theorem noEnabledRequestWaitsWithImeSet : Obligations.NoEnabledRequestWaitsWithImeSet := by
  intro s t h raised
  obtain ⟨ran, -, rfl⟩ := step_eq_next_iff.mp h
  exact checkInterrupts_settles _ _ (pending_eq _ ▸ raised)

/-- The lowest raised bit is the one that the check finds (R310, R312). -/
theorem lowestIrq_of_least {p : Byte} {i : Nat} (h : i < 5) (raised : p.getLsbD i = true)
    (least : ∀ j < i, p.getLsbD j = false) : lowestIrq p = some i := by
  rw [lowestIrq, List.find?_range_eq_some]
  exact ⟨raised, List.mem_range.mpr h, fun j hj => by rw [least j hj]; rfl⟩

/-- A dispatch by the bytes it stacks and the addresses of IF (R301, R311). -/
theorem takeInterrupt_eq (i : Nat) (s : State) :
    takeInterrupt i s = { pushed s s.pc with pc := BitVec.ofNat 16 (0x40 + 8 * i), ime := false }.setIo 0x0F
      ((pushed s s.pc).readByte 0xFF0F &&& ~~~(BitVec.ofNat 8 (2 ^ i))) := by
  rw [readByte_if, ← push16_eq_pushed]
  rfl

/-- Settles O34: the cases of the check, the lowest raised request being the one it finds. -/
theorem interruptCheckDispatchesTheLowest : Obligations.InterruptCheckDispatchesTheLowest := by
  rintro s awake rfl
  refine ⟨fun nothing => if_pos (pending_eq s ▸ nothing), fun raised masked => ?_, fun i hi ime raised least stacked hs => ?_⟩
  · rw [← pending_eq] at raised
    obtain ⟨nothing, -⟩ | ⟨-, -, e⟩ | ⟨-, ime, -⟩ := interruptCheck_cases s
    · exact absurd nothing raised
    · exact e
    · exact absurd (ime.symm.trans masked) (by decide)
  · have found : lowestIrq s.pending = some i :=
      lowestIrq_of_least hi (getLsbD_pending s hi ▸ raised) fun j hj => getLsbD_pending s (hj.trans hi) ▸ least j hj
    obtain ⟨nothing, -⟩ | ⟨-, masked, -⟩ | ⟨-, -, k, lowest, e⟩ := interruptCheck_cases s
    · rw [nothing] at found
      exact nomatch found.symm.trans (show lowestIrq 0 = none from rfl)
    · exact absurd (ime.symm.trans masked) (by decide)
    · obtain rfl : k = i := Option.some.inj (lowest.symm.trans found)
      rw [e, takeInterrupt_eq, hs]
      rfl

/-! A halted processor without an enabled interrupt (R330). -/

/-- A read outside the named I/O registers does not see a change of them. -/
theorem readByte_of_sameBut {s t : State} {offs : List Nat} (h : s.mem.sameBut t.mem offs) (bank : t.bank = s.bank)
    (ie : t.ie = s.ie) {x : Word} (hx : x ∉ offs.map fun off => BitVec.ofNat 16 (0xFF00 + off)) :
    t.readByte x = s.readByte x := by
  obtain ⟨-, romSize, extRamSize⟩ := h.image
  have rom (off : Nat) : romAt t.mem off = romAt s.mem off := by
    rw [romAt, romAt, romSize, h.elsewhere _ _ (.inl (by decide))]
  have ram (off : Nat) : ramAt t.mem off = ramAt s.mem off := by
    rw [ramAt, ramAt, extRamSize, h.elsewhere _ _ (.inl (by decide))]
  rw [State.readByte_eq, State.readByte_eq]
  cases e : placeOf x.toNat with
  | rom => simp only [readPlace, readRom, rom, bank]
  | cell r i =>
    refine h.elsewhere r i (Classical.or_iff_not_imp_left.mpr fun io => ?_)
    obtain rfl : r = .io := Classical.not_not.mp io
    obtain ⟨-, -, -, -, inside, -⟩ := spans_of_placeOf e
    have address : x.toNat = 0xFF00 + i := (placeOf_eq_io_iff (inside rfl)).mp e
    exact fun named => hx (List.mem_map.mpr ⟨i, named, by rw [← address, BitVec.ofNat_toNat, BitVec.setWidth_eq]⟩)
  | extRam => simp only [readPlace, readExternalRam, ram, bank]
  | unusable => rfl
  | ie => exact ie

/-- What follows the processor's part of a step where no interrupt is enabled: the countdown and the devices (R305, R330). -/
theorem catchUp_of_disabled {s : State} (disabled : s.ie &&& 0x1F = 0) :
    ∃ mem divAcc timaAcc mode lineCycles frame ready apu,
      s.mem.sameBut mem deviceOffsets ∧
        catchUp s =
          { s with
            imeDelay := if s.imeDelay = 2 then 1 else 0, ime := s.ime || decide (s.imeDelay = 1)
            clock := s.clock + s.cycles, mem := mem, divAcc := divAcc, timaAcc := timaAcc, mode := mode
            lineCycles := lineCycles, frameBuffer := frame, framesReady := ready, apu := apu } := by
  obtain ⟨mem, divAcc, timaAcc, mode, lineCycles, frame, ready, apu, hm, devices⟩ :=
    advanceDevices_shape s.cycles (imeTick s)
  rw [imeTick_eq] at hm
  have quiet : (advanceDevices s.cycles (imeTick s)).pending = 0 :=
    pending_of_disabled (by rw [devices, imeTick_eq]; exact disabled)
  refine ⟨mem, divAcc, timaAcc, mode, lineCycles, frame, ready, apu, hm, ?_⟩
  rw [catchUp, checkInterrupts_of_quiet _ quiet, devices, imeTick_eq]

/-- Settles O38: the processor idles, and what follows is `catchUp_of_disabled`. -/
theorem deadHaltNeverWakes : Obligations.DeadHaltNeverWakes := by
  intro s t halted disabled h
  obtain ⟨ran, cpu, rfl⟩ := step_eq_next_iff.mp h
  obtain ⟨buttons, inputs, input⟩ := takeInput_shape s
  rw [input, cpuStep, if_pos halted] at cpu
  cases cpu
  obtain ⟨mem, divAcc, timaAcc, mode, lineCycles, frame, ready, apu, hm, caught⟩ :=
    catchUp_of_disabled (s := { s with buttons := buttons, buttonInputs := inputs }.reports 4) disabled
  rw [caught]
  refine ⟨halted, rfl, rfl, rfl, rfl, fun r => ?_, rfl, rfl, fun h => ?_, fun h => ?_, rfl, fun x hx => ?_⟩
  · cases r <;> rfl
  · simp [h]
  · simp [h]
  · have named : deviceOffsets.map (fun off => BitVec.ofNat 16 (0xFF00 + off)) =
        [0xFF00, 0xFF04, 0xFF05, 0xFF0F, 0xFF41, 0xFF44] := by decide
    refine readByte_of_sameBut (offs := deviceOffsets) ?_ ?_ ?_ (named ▸ hx)
    · exact hm
    · rfl
    · rfl

end Sys2Proof.Machine
end

section
/-! PROOFS. The divider and the timer (61_timer.md). The increments of one call are counted by induction: up to 0xFF `TIMA`
takes the sum (`timaTicks_of_count`), from the first overflow on it runs from `TMA` to 0xFF again and again
(`timaTicks_of_overflow`). -/

namespace Sys2Proof.Machine

/-! One increment (R343, R345). -/

section
variable {s : State}

theorem timaTick_ioByte {off : Nat} (h5 : off ≠ 0x05) (hF : off ≠ 0x0F) : (timaTick s).ioByte off = s.ioByte off := by
  unfold timaTick raiseIrq
  split <;> simp only [State.ioByte_setIo, if_neg h5, if_neg hF]

theorem timaTicks_ioByte {off : Nat} (h5 : off ≠ 0x05) (hF : off ≠ 0x0F) (n : Nat) :
    (timaTicks n s).ioByte off = s.ioByte off := by
  induction n generalizing s with
  | zero => rfl
  | succ n ih => exact ih.trans (timaTick_ioByte h5 hF)

theorem timaTick_tma : (timaTick s).tma = s.tma := timaTick_ioByte (by decide) (by decide)

theorem timaTick_of_overflow (h : s.tima = 0xFF) :
    (timaTick s).tima = s.tma ∧ (timaTick s).iflags = s.iflags ||| 0x04 := by
  rw [timaTick, if_pos h]
  simp [raiseIrq, State.tima, State.iflags, State.ioByte_setIo, bitMask]

theorem timaTick_of_count (h : s.tima ≠ 0xFF) :
    (timaTick s).tima.toNat = s.tima.toNat + 1 ∧ (timaTick s).iflags = s.iflags := by
  rw [timaTick, if_neg h]
  have next : (s.tima + 1).toNat = s.tima.toNat + 1 := by bv_omega
  simp only [State.tima, State.iflags, State.ioByte_setIo] at next ⊢
  exact ⟨next, rfl⟩

/-! Many increments (R346). -/

theorem timaTicks_of_count {n : Nat} (h : s.tima.toNat + n < 256) :
    (timaTicks n s).tima.toNat = s.tima.toNat + n ∧ (timaTicks n s).iflags = s.iflags := by
  induction n generalizing s with
  | zero => exact ⟨rfl, rfl⟩
  | succ n ih =>
    obtain ⟨tima, iflags⟩ := timaTick_of_count (s := s) (by bv_omega)
    obtain ⟨tima', iflags'⟩ := ih (s := timaTick s) (by omega)
    exact ⟨by rw [timaTicks, tima', tima]; omega, iflags'.trans iflags⟩

theorem timaTicks_of_overflow {n : Nat} (h : 256 ≤ s.tima.toNat + n) :
    (timaTicks n s).tima.toNat = s.tma.toNat + (s.tima.toNat + n - 256) % (256 - s.tma.toNat) ∧
      (timaTicks n s).iflags = s.iflags ||| 0x04 := by
  induction n generalizing s with
  | zero => have := s.tima.isLt; omega
  | succ n ih =>
    have bound := s.tma.isLt
    rw [timaTicks]
    by_cases top : s.tima = 0xFF
    · obtain ⟨tima, iflags⟩ := timaTick_of_overflow top
      have full : s.tima.toNat = 255 := by rw [top]; rfl
      have left : s.tima.toNat + (n + 1) - 256 = n := by omega
      rw [left]
      obtain few | many := Nat.lt_or_ge (s.tma.toNat + n) 256
      · obtain ⟨tima', iflags'⟩ := timaTicks_of_count (s := timaTick s) (n := n) (tima ▸ few)
        rw [tima', iflags', tima, iflags, Nat.mod_eq_of_lt (by omega)]
        exact ⟨rfl, rfl⟩
      · have again : s.tma.toNat + n - 256 = n - (256 - s.tma.toNat) := by
          rw [Nat.sub_sub_right n bound.le, Nat.add_comm]
        obtain ⟨tima', iflags'⟩ := ih (s := timaTick s) (tima ▸ many)
        rw [tima', iflags', timaTick_tma, tima, iflags, again, ← Nat.mod_eq_sub_mod (by omega), BitVec.or_assoc,
          BitVec.or_self]
        exact ⟨rfl, rfl⟩
    · obtain ⟨tima, iflags⟩ := timaTick_of_count top
      obtain ⟨tima', iflags'⟩ := ih (s := timaTick s) (by omega)
      rw [tima', iflags', timaTick_tma, tima, iflags, Nat.add_assoc, Nat.add_comm 1]
      exact ⟨rfl, rfl⟩

end

/-! A call (R341, R343). -/

/-- The divider's part writes DIV alone. -/
theorem dividerStep_ioByte (c : Nat) (s : State) {off : Nat} (h : off ≠ 0x04) :
    (dividerStep c s).ioByte off = s.ioByte off := (State.ioByte_setIo s 0x04 off _).trans (if_neg h)

/-- The counter's part leaves the divider. -/
theorem counterStep_divider (c : Nat) (s : State) :
    (counterStep c s).div = s.div ∧ (counterStep c s).divAcc = s.divAcc := by
  simp only [counterStep]
  split
  · exact ⟨timaTicks_ioByte (by decide) (by decide) _, (timaTicks_accs _ _).1⟩
  · exact ⟨rfl, rfl⟩

/-- Settles O39: `DIV` takes the carries out of `DivAcc`, and the counter leaves both. -/
theorem dividerCountsEveryCycle : Obligations.DividerCountsEveryCycle := by
  intro s c h
  obtain ⟨div, divAcc⟩ := counterStep_divider c (dividerStep c s)
  have carried : (dividerStep c s).div = s.div + BitVec.ofNat 8 ((s.divAcc + c) / 256) :=
    (State.ioByte_setIo s 0x04 0x04 _).trans (if_pos rfl)
  have left : (dividerStep c s).divAcc = (s.divAcc + c) % 256 := rfl
  rw [dividerCounter, dividerCounter, timerStep, div, divAcc, carried, left, BitVec.toNat_add, BitVec.toNat_ofNat]
  omega

/-- While the timer is enabled a call makes an increment for each period that the accumulator passes. -/
theorem timerStep_of_enabled (c : Nat) {s : State} (h : s.tac.getLsbD 2 = true) :
    ∃ t, timerStep c s = timaTicks ((s.timaAcc + c) / timerPeriod s.tac) t ∧
      t.timaAcc = (s.timaAcc + c) % timerPeriod s.tac ∧ t.tima = s.tima ∧ t.tma = s.tma ∧ t.iflags = s.iflags := by
  have tac : (dividerStep c s).tac = s.tac := dividerStep_ioByte c s (by decide)
  rw [timerStep, counterStep, tac]
  exact ⟨_, if_pos h, rfl, dividerStep_ioByte c s (by decide), dividerStep_ioByte c s (by decide),
    dividerStep_ioByte c s (by decide)⟩

theorem timerStep_of_disabled (c : Nat) {s : State} (h : s.tac.getLsbD 2 = false) : timerStep c s = dividerStep c s := by
  have tac : (dividerStep c s).tac = s.tac := dividerStep_ioByte c s (by decide)
  rw [timerStep, counterStep, tac]
  exact if_neg (ne_true_of_eq_false h)

/-- Settles O40: the increments of the call, counted up to the first overflow and beyond it. -/
theorem timerCountsPeriods : Obligations.TimerCountsPeriods := by
  intro s c period n hperiod hn
  obtain rfl : period = timerPeriod s.tac := hperiod
  subst hn
  refine ⟨fun enabled => ?_, fun disabled => ?_⟩
  · obtain ⟨t, ticks, timaAcc, tima, tma, iflags⟩ := timerStep_of_enabled c enabled
    rw [ticks, ← tima, ← tma, ← iflags, ← timaAcc]
    exact ⟨(timaTicks_accs _ t).2, timaTicks_of_count, timaTicks_of_overflow⟩
  · rw [timerStep_of_disabled c disabled]
    exact ⟨rfl, dividerStep_ioByte c s (by decide), dividerStep_ioByte c s (by decide)⟩

end Sys2Proof.Machine
end

section
/-! PROOFS. The sequencer of the picture unit (62_ppu.md sections 1 to 4). What each of its operations leaves in STAT, IF and the
pictures is said once; `leaveMode_cases` names the operations of each transition, `ppuStep_of_early`, `ppuStep_of_due` and
`ppuStep_of_off` the three things a call can do. -/

namespace Sys2Proof.Machine

/-! What the sequencer's operations leave in STAT, IF and the pictures. -/

/-- `SetMode` keeps the bits of STAT above the mode's (R376). -/
theorem getLsbD_stat_setMode (stat : Byte) (m : PpuMode) {j : Nat} (h : 2 ≤ j) (h' : j < 8) :
    ((stat &&& 0xFC) ||| m.bits).getLsbD j = stat.getLsbD j := by
  cases m <;> simp only [PpuMode.bits] <;> interval_cases j <;> simp

section
variable (s : State) {j : Nat}

@[simp] theorem State.setIo_iflags (off : Nat) (v : Byte) :
    (s.setIo off v).iflags = if 0x0F = off then v else s.iflags := State.ioByte_setIo s off 0x0F v
@[simp] theorem State.setIo_lyc (off : Nat) (v : Byte) : (s.setIo off v).lyc = if 0x45 = off then v else s.lyc :=
  State.ioByte_setIo s off 0x45 v

@[simp] theorem setMode_iflags (m : PpuMode) : (setMode m s).iflags = s.iflags := State.setIo_iflags s 0x41 _

theorem raiseIrq_iflags_getLsbD (i : Nat) (h : j < 8) :
    (raiseIrq i s).iflags.getLsbD j = (s.iflags.getLsbD j || decide (j = i)) := by
  rw [raiseIrq, State.setIo_iflags, if_pos rfl, BitVec.getLsbD_or, getLsbD_bitMask i h]

@[simp] theorem raiseStat_stat (bit : Nat) : (raiseStat bit s).stat = s.stat := by
  unfold raiseStat; split <;> simp
@[simp] theorem raiseStat_frameBuffer (bit : Nat) : (raiseStat bit s).frameBuffer = s.frameBuffer := by
  unfold raiseStat; split <;> rfl
@[simp] theorem raiseStat_framesReady (bit : Nat) : (raiseStat bit s).framesReady = s.framesReady := by
  unfold raiseStat; split <;> rfl

theorem raiseStat_iflags_getLsbD (bit : Nat) (h : j < 8) :
    (raiseStat bit s).iflags.getLsbD j = (s.iflags.getLsbD j || (decide (j = 1) && s.stat.getLsbD bit)) := by
  unfold raiseStat
  split <;> rename_i enabled
  · rw [raiseIrq_iflags_getLsbD s 1 h, enabled, Bool.and_true]
  · rw [Bool.eq_false_iff.mpr enabled, Bool.and_false, Bool.or_false]

/-- The coincidence check sets bit 2 of STAT to `LY = LYC`, and keeps the rest (R384). -/
theorem coincidenceCheck_stat_getLsbD (h : j < 8) :
    (coincidenceCheck s).stat.getLsbD j = if j = 2 then decide (s.ly = s.lyc) else s.stat.getLsbD j := by
  unfold coincidenceCheck
  split <;> rename_i coincides
  · rw [raiseStat_stat, State.setIo_stat, if_pos rfl, decide_eq_true coincides]
    exact getLsbD_or_bitMask s.stat 2 h
  · rw [State.setIo_stat, if_pos rfl, decide_eq_false coincides]
    exact getLsbD_and_not_bitMask s.stat 2 h

@[simp] theorem coincidenceCheck_statMode : (coincidenceCheck s).stat &&& 0x03 = s.stat &&& 0x03 := by
  refine BitVec.eq_of_getLsbD_eq fun i hi => ?_
  rw [BitVec.getLsbD_and, BitVec.getLsbD_and, coincidenceCheck_stat_getLsbD s hi]
  split
  · subst i
    simp
  · rfl

theorem coincidenceCheck_iflags_getLsbD (h : j < 8) :
    (coincidenceCheck s).iflags.getLsbD j =
      (s.iflags.getLsbD j || (decide (j = 1) && (decide (s.ly = s.lyc) && s.stat.getLsbD 6))) := by
  unfold coincidenceCheck
  split <;> rename_i coincides
  · have bit6 : (s.stat ||| 0x04).getLsbD 6 = s.stat.getLsbD 6 := getLsbD_or_bitMask s.stat 2 (by decide)
    rw [raiseStat_iflags_getLsbD _ 6 h, State.setIo_stat, if_pos rfl, bit6, decide_eq_true coincides,
      State.setIo_iflags, if_neg (by decide), Bool.true_and]
  · rw [decide_eq_false coincides, Bool.false_and, Bool.and_false, Bool.or_false, State.setIo_iflags, if_neg (by decide)]

@[simp] theorem coincidenceCheck_frameBuffer : (coincidenceCheck s).frameBuffer = s.frameBuffer := by
  unfold coincidenceCheck; split <;> simp
@[simp] theorem coincidenceCheck_framesReady : (coincidenceCheck s).framesReady = s.framesReady := by
  unfold coincidenceCheck; split <;> simp

theorem ioByte_of_ppuReaches {s t : State} (h : ppuReaches s t) {off : Nat} (ho : off ∉ ppuOffsets) :
    t.ioByte off = s.ioByte off := by
  obtain ⟨mem, _, _, _, _, hm, rfl⟩ := h
  exact hm.elsewhere .io off (.inr ho)

@[simp] theorem enterOamScan_lyc : (enterOamScan s).lyc = s.lyc := ioByte_of_ppuReaches (enterOamScan_ppu s) (by decide)
@[simp] theorem enterVBlank_lyc : (enterVBlank s).lyc = s.lyc := ioByte_of_ppuReaches (enterVBlank_ppu s) (by decide)

@[simp] theorem enterOamScan_stat : (enterOamScan s).stat = (s.stat &&& 0xFC) ||| PpuMode.oamScan.bits := by
  simp [enterOamScan]
@[simp] theorem enterHBlank_stat : (enterHBlank s).stat = (s.stat &&& 0xFC) ||| PpuMode.hBlank.bits :=
  (raiseStat_stat _ 3).trans (setMode_stat s .hBlank)
@[simp] theorem enterVBlank_stat : (enterVBlank s).stat = (s.stat &&& 0xFC) ||| PpuMode.vBlank.bits :=
  (raiseStat_stat _ 4).trans ((raiseIrq_stat _ 0).trans (setMode_stat s .vBlank))

theorem enterOamScan_iflags_getLsbD (h : j < 8) :
    (enterOamScan s).iflags.getLsbD j = (s.iflags.getLsbD j || (decide (j = 1) && s.stat.getLsbD 5)) := by
  rw [enterOamScan, raiseStat_iflags_getLsbD _ _ h, setMode_iflags, setMode_stat,
    getLsbD_stat_setMode _ _ (by decide) (by decide)]
theorem enterHBlank_iflags_getLsbD (h : j < 8) :
    (enterHBlank s).iflags.getLsbD j = (s.iflags.getLsbD j || (decide (j = 1) && s.stat.getLsbD 3)) := by
  refine (raiseStat_iflags_getLsbD (renderLine _ (setMode .hBlank s)) 3 h).trans ?_
  show ((setMode .hBlank s).iflags.getLsbD j || (_ && (setMode .hBlank s).stat.getLsbD 3)) = _
  rw [setMode_iflags, setMode_stat, getLsbD_stat_setMode _ _ (by decide) (by decide)]
theorem enterVBlank_iflags_getLsbD (h : j < 8) :
    (enterVBlank s).iflags.getLsbD j =
      (s.iflags.getLsbD j || decide (j = 0) || (decide (j = 1) && s.stat.getLsbD 4)) := by
  refine (raiseStat_iflags_getLsbD (frameReady (raiseIrq 0 (setMode .vBlank s))) 4 h).trans ?_
  show ((raiseIrq 0 (setMode .vBlank s)).iflags.getLsbD j || (_ && (raiseIrq 0 (setMode .vBlank s)).stat.getLsbD 4)) = _
  rw [raiseIrq_iflags_getLsbD _ _ h, raiseIrq_stat, setMode_iflags, setMode_stat,
    getLsbD_stat_setMode _ _ (by decide) (by decide)]

@[simp] theorem enterOamScan_frameBuffer : (enterOamScan s).frameBuffer = s.frameBuffer := by simp [enterOamScan]
@[simp] theorem enterOamScan_framesReady : (enterOamScan s).framesReady = s.framesReady := by simp [enterOamScan]
@[simp] theorem renderLine_framesReady (n : Nat) : (renderLine n s).framesReady = s.framesReady := rfl
@[simp] theorem frameReady_frameBuffer : (frameReady s).frameBuffer = s.frameBuffer := rfl
@[simp] theorem frameReady_framesReady : (frameReady s).framesReady = s.framesReady ++ [s.frameBuffer] := rfl
@[simp] theorem enterHBlank_framesReady : (enterHBlank s).framesReady = s.framesReady := by simp [enterHBlank]
@[simp] theorem enterVBlank_frameBuffer : (enterVBlank s).frameBuffer = s.frameBuffer := by simp [enterVBlank]
@[simp] theorem enterVBlank_framesReady : (enterVBlank s).framesReady = s.framesReady ++ [s.frameBuffer] := by
  simp [enterVBlank]

end

/-! The transitions and the calls. -/

section
variable {s : State}

theorem leaveMode_of_oamScan (mode : s.mode = .oamScan) : leaveMode s = setMode .pixelTransfer s := by
  rw [leaveMode, mode]

theorem leaveMode_of_pixelTransfer (mode : s.mode = .pixelTransfer) : leaveMode s = enterHBlank s := by
  rw [leaveMode, mode]

/-- After line 143 V-Blank begins (R375, R380). -/
theorem leaveMode_of_lastLine (mode : s.mode = .hBlank) (last : s.ly = 143) :
    leaveMode s = coincidenceCheck (enterVBlank (s.setIo 0x44 144)) := by
  rw [leaveMode, mode]
  simp [endHBlank, last]

theorem leaveMode_of_hBlank (mode : s.mode = .hBlank) (drawn : s.ly ≠ 143) :
    leaveMode s = coincidenceCheck (enterOamScan (s.setIo 0x44 (s.ly + 1))) := by
  have next : ¬(s.setIo 0x44 (s.ly + 1)).ly = 144 := by
    rw [State.setIo_ly, if_pos rfl]
    bv_omega
  rw [leaveMode, mode]
  simp only [endHBlank, if_neg next]

theorem leaveMode_of_vBlank (mode : s.mode = .vBlank) (within : ¬153 < (s.ly + 1).toNat) :
    leaveMode s = coincidenceCheck (s.setIo 0x44 (s.ly + 1)) := by
  rw [leaveMode, mode]
  simp only [endVBlankLine, State.setIo_ly, if_true, gt_iff_lt, if_neg within]

/-- After line 153 the frame begins again (R375, R379). -/
theorem leaveMode_of_lastVBlankLine (mode : s.mode = .vBlank) (beyond : 153 < (s.ly + 1).toNat) :
    leaveMode s = coincidenceCheck (enterOamScan ((s.setIo 0x44 (s.ly + 1)).setIo 0x44 0)) := by
  rw [leaveMode, mode]
  simp only [endVBlankLine, State.setIo_ly, if_true, gt_iff_lt, if_pos beyond]

/-- The transitions of the sequencer, each with its operations (R375, R378, R379). -/
theorem leaveMode_cases (s : State) :
    (s.mode = .oamScan ∧ leaveMode s = setMode .pixelTransfer s) ∨
    (s.mode = .pixelTransfer ∧ leaveMode s = enterHBlank s) ∨
    (s.mode = .hBlank ∧ s.ly = 143 ∧ leaveMode s = coincidenceCheck (enterVBlank (s.setIo 0x44 144))) ∨
    (s.mode = .hBlank ∧ s.ly ≠ 143 ∧ leaveMode s = coincidenceCheck (enterOamScan (s.setIo 0x44 (s.ly + 1)))) ∨
    (s.mode = .vBlank ∧ leaveMode s = coincidenceCheck (s.setIo 0x44 (s.ly + 1))) ∨
    (s.mode = .vBlank ∧ leaveMode s = coincidenceCheck (enterOamScan ((s.setIo 0x44 (s.ly + 1)).setIo 0x44 0))) := by
  cases mode : s.mode with
  | oamScan => exact .inl ⟨rfl, leaveMode_of_oamScan mode⟩
  | pixelTransfer => exact .inr (.inl ⟨rfl, leaveMode_of_pixelTransfer mode⟩)
  | hBlank =>
    by_cases last : s.ly = 143
    · exact .inr (.inr (.inl ⟨rfl, last, leaveMode_of_lastLine mode last⟩))
    · exact .inr (.inr (.inr (.inl ⟨rfl, last, leaveMode_of_hBlank mode last⟩)))
  | vBlank =>
    by_cases beyond : 153 < (s.ly + 1).toNat
    · exact .inr (.inr (.inr (.inr (.inr ⟨rfl, leaveMode_of_lastVBlankLine mode beyond⟩))))
    · exact .inr (.inr (.inr (.inr (.inl ⟨rfl, leaveMode_of_vBlank mode beyond⟩))))

end

section
variable {s : State} {c : Nat}

theorem ppuStep_of_off (h : s.lcdc.getLsbD 7 = false) : ppuStep c s = frozenPpu s := if_neg (ne_true_of_eq_false h)

theorem ppuStep_of_early (h : s.lcdc.getLsbD 7 = true) (early : s.lineCycles + c < s.mode.duration) :
    ppuStep c s = { s with lineCycles := s.lineCycles + c } := by
  rw [ppuStep, if_pos h]
  exact if_neg (Nat.not_le.mpr early)

/-- A call that reaches the threshold leaves the mode, with the excess carried over (R375). -/
theorem ppuStep_of_due (h : s.lcdc.getLsbD 7 = true) (due : s.mode.duration ≤ s.lineCycles + c) :
    ∃ u, ppuStep c s = leaveMode u ∧ u.lineCycles = s.lineCycles + c - s.mode.duration ∧ u.mode = s.mode ∧ u.ly = s.ly ∧
      u.lyc = s.lyc ∧ u.stat = s.stat ∧ u.iflags = s.iflags ∧ u.frameBuffer = s.frameBuffer ∧
      u.framesReady = s.framesReady ∧ ppuReaches s u := by
  rw [ppuStep, if_pos h]
  exact ⟨_, if_pos due, rfl, rfl, rfl, rfl, rfl, rfl, rfl, rfl, s.mem, s.mode, _, s.frameBuffer, s.framesReady,
    Memory.sameBut_refl _ _, rfl⟩

end

/-- Settles O45: the frozen state is written out in `frozenPpu`. -/
theorem lcdOffFreezesTheSequencer : Obligations.LcdOffFreezesTheSequencer := by
  intro s c off
  have stat : (frozenPpu s).stat = s.stat &&& 0xFC := by
    rw [frozenPpu, setMode_stat]
    show ((s.setIo 0x44 0).stat &&& 0xFC) ||| 0 = _
    rw [State.setIo_stat, if_neg (by decide)]
    exact BitVec.or_zero
  have iflags : (frozenPpu s).iflags = s.iflags := by
    rw [frozenPpu, setMode_iflags]
    exact State.setIo_iflags s 0x44 0
  rw [ppuStep_of_off off]
  exact ⟨(setMode_ly _ _).trans (State.setIo_ly s 0x44 0), rfl, rfl, stat, iflags, rfl, rfl⟩

/-! A transition (R362, R375 to R384). -/

/-- A transition leaves `STAT[1:0]` the mode (R376). -/
theorem leaveMode_statMode {s : State} (mirrors : s.stat &&& 0x03 = s.mode.bits) :
    (leaveMode s).stat &&& 0x03 = (leaveMode s).mode.bits := by
  obtain ⟨-, e⟩ | ⟨-, e⟩ | ⟨-, -, e⟩ | ⟨-, -, e⟩ | ⟨-, e⟩ | ⟨-, e⟩ := leaveMode_cases s <;> rw [e]
  · rw [setMode_stat, setMode_mode, statMode_setMode]
  · rw [enterHBlank_stat, enterHBlank_mode, statMode_setMode]
  · rw [coincidenceCheck_statMode, coincidenceCheck_mode, enterVBlank_stat, enterVBlank_mode, statMode_setMode]
  · rw [coincidenceCheck_statMode, coincidenceCheck_mode, enterOamScan_stat, enterOamScan_mode, statMode_setMode]
  · rw [coincidenceCheck_statMode, coincidenceCheck_mode, State.setIo_stat, if_neg (by decide)]
    exact mirrors
  · rw [coincidenceCheck_statMode, coincidenceCheck_mode, enterOamScan_stat, enterOamScan_mode, statMode_setMode]

/-- `STAT[2]` tells `LY = LYC` where a transition moves `LY`, and is kept where it does not (R384). -/
theorem leaveMode_coincidence (s : State) :
    (leaveMode s).stat.getLsbD 2 =
      if s.mode = .hBlank ∨ s.mode = .vBlank then decide ((leaveMode s).ly = s.lyc) else s.stat.getLsbD 2 := by
  obtain ⟨mode, e⟩ | ⟨mode, e⟩ | ⟨mode, -, e⟩ | ⟨mode, -, e⟩ | ⟨mode, e⟩ | ⟨mode, e⟩ := leaveMode_cases s <;> rw [e, mode]
  · rw [setMode_stat, getLsbD_stat_setMode _ _ (by decide) (by decide)]
    rfl
  · rw [enterHBlank_stat, getLsbD_stat_setMode _ _ (by decide) (by decide)]
    rfl
  all_goals
    rw [coincidenceCheck_stat_getLsbD _ (by decide)]
    simp

/-- Settles O41: the equation of each transition, of which `leaveMode_statMode` and `leaveMode_coincidence` give the bits of
STAT. -/
theorem sequencerFollowsTheModes : Obligations.SequencerFollowsTheModes := by
  intro s c threshold on hthreshold
  obtain rfl : threshold = s.mode.duration := by
    rw [hthreshold]
    cases s.mode <;> rfl
  refine ⟨ppuStep_of_early on, fun due => ?_⟩
  obtain ⟨u, e, carried, mode, ly, lyc, stat, -⟩ := ppuStep_of_due on due
  have moved : u.mode = .hBlank ∨ u.mode = .vBlank → ((leaveMode u).stat.getLsbD 2 = true ↔ (leaveMode u).ly = u.lyc) :=
    fun h => by rw [leaveMode_coincidence, if_pos h, decide_eq_true_iff]
  rw [e, ← carried, ← mode, ← ly, ← lyc, ← stat]
  refine ⟨leaveMode_lineCycles u, leaveMode_statMode, fun h => ?_, fun h => ?_, fun h => ?_, fun h below => ?_, fun h last => ?_, moved,
    fun h => ?_⟩
  · rw [leaveMode_of_oamScan h]
    exact ⟨rfl, setMode_ly u _⟩
  · rw [leaveMode_of_pixelTransfer h]
    exact ⟨enterHBlank_mode u, enterHBlank_ly u⟩
  · by_cases last : u.ly = 143
    · rw [leaveMode_of_lastLine h last, if_pos last, last]
      simp
    · rw [leaveMode_of_hBlank h last, if_neg last]
      simp
  · rw [leaveMode_of_vBlank h (by bv_omega)]
    simp [h]
  · rw [leaveMode_of_lastVBlankLine h (by rw [last]; decide)]
    simp
  · rw [leaveMode_coincidence, if_neg]
    obtain h | h := h <;> simp [h]

/-- Settles O42: each of the three modes waits, and the transitions are those of `sequencerFollowsTheModes`. -/
theorem drawnLineTakes456Cycles : Obligations.DrawnLineTakes456Cycles := by
  intro s on mode start drawn
  have lcdc (t : State) (c : Nat) : (ppuStep c t).lcdc = t.lcdc := ioByte_of_ppuReaches (ppuStep_shape c t) (by decide)
  have waits {t : State} {m : PpuMode} (on : t.lcdc.getLsbD 7 = true) (mode : t.mode = m) (start : t.lineCycles = 0) :
      ∀ c < m.duration, (ppuStep c t).mode = m ∧ (ppuStep c t).ly = t.ly := fun c early => by
    subst mode
    rw [ppuStep_of_early on (by rwa [start, Nat.zero_add])]
    exact ⟨rfl, rfl⟩
  obtain ⟨start1, -, leave1, -⟩ := (sequencerFollowsTheModes s 80 80 on (by rw [mode])).2 (Nat.le_add_left ..)
  obtain ⟨mode1, ly1⟩ := leave1 mode
  have on1 : (ppuStep 80 s).lcdc.getLsbD 7 = true := lcdc s 80 ▸ on
  have wait := waits on mode start
  rw [start] at start1
  generalize ppuStep 80 s = t at *
  obtain ⟨start2, -, -, leave2, -⟩ := (sequencerFollowsTheModes t 172 172 on1 (by rw [mode1])).2 (Nat.le_add_left ..)
  obtain ⟨mode2, ly2⟩ := leave2 mode1
  have on2 : (ppuStep 172 t).lcdc.getLsbD 7 = true := lcdc t 172 ▸ on1
  have wait1 := waits on1 mode1 start1
  rw [start1] at start2
  generalize ppuStep 172 t = u at *
  obtain ⟨start3, -, -, -, leave3, -⟩ := (sequencerFollowsTheModes u 204 204 on2 (by rw [mode2])).2 (Nat.le_add_left ..)
  obtain ⟨ly3, mode3⟩ := leave3 mode2
  have wait2 := waits on2 mode2 start2
  rw [start2] at start3
  rw [ly1] at wait1 ly2
  rw [ly2] at wait2 ly3 mode3
  exact ⟨wait, mode1, ly1, wait1, mode2, ly2, wait2, ly3, start3, mode3⟩

/-- Settles O43: the transition after line 143, whose requests are V-Blank's and those of the coincidence check. -/
theorem vBlankEntryRaisesAndHandsOver : Obligations.VBlankEntryRaisesAndHandsOver := by
  intro s c on mode last due
  obtain ⟨u, e, -, umode, ly, lyc, stat, iflags, frame, ready, -⟩ := ppuStep_of_due on (by rwa [mode])
  have requests {j : Nat} (hj : j < 8) : (ppuStep c s).iflags.getLsbD j =
      (s.iflags.getLsbD j || decide (j = 0) || (decide (j = 1) && s.stat.getLsbD 4) ||
        (decide (j = 1) && (decide (144 = s.lyc) && s.stat.getLsbD 6))) := by
    rw [e, leaveMode_of_lastLine (umode.trans mode) (ly.trans last), coincidenceCheck_iflags_getLsbD _ hj,
      enterVBlank_iflags_getLsbD _ hj, enterVBlank_ly, enterVBlank_lyc, enterVBlank_stat,
      getLsbD_stat_setMode _ _ (by decide) (by decide), ← iflags, ← stat, ← lyc]
    simp
  rw [e, leaveMode_of_lastLine (umode.trans mode) (ly.trans last)] at requests ⊢
  refine ⟨by simp, by simp, ?_, ?_, ?_, ?_, fun j hj low => ?_⟩
  · rw [requests (by decide)]
    simp
  · simp [frame, ready]
  · simp [frame]
  · rw [requests (by decide)]
    rw [eq_comm (a := s.lyc)]
    simp only [Bool.or_eq_true, Bool.and_eq_true, decide_eq_true_iff, true_and, one_ne_zero, or_false, or_assoc]
  · rw [requests hj, decide_eq_false (by omega), decide_eq_false (by omega), Bool.false_and, Bool.false_and, Bool.or_false,
      Bool.or_false, Bool.or_false]

/-- The requests of the transitions other than into V-Blank: LCD-Stat alone, from the mode entered or the coincidence (R381,
R384). -/
theorem leaveMode_iflags_getLsbD {s : State} (other : ¬(s.mode = .hBlank ∧ s.ly = 143)) {j : Nat} (hj : j < 8) :
    (leaveMode s).iflags.getLsbD j = (s.iflags.getLsbD j || (decide (j = 1) &&
      (decide ((leaveMode s).mode = .oamScan) && s.stat.getLsbD 5 ||
        decide ((leaveMode s).mode = .hBlank) && s.stat.getLsbD 3 ||
        decide (s.mode = .hBlank ∨ s.mode = .vBlank) && (decide ((leaveMode s).ly = s.lyc) && s.stat.getLsbD 6)))) := by
  have kept (m : PpuMode) : ((s.stat &&& 0xFC) ||| m.bits).getLsbD 6 = s.stat.getLsbD 6 :=
    getLsbD_stat_setMode _ _ (by decide) (by decide)
  obtain ⟨mode, e⟩ | ⟨mode, e⟩ | ⟨mode, last, -⟩ | ⟨mode, -, e⟩ | ⟨mode, e⟩ | ⟨mode, e⟩ := leaveMode_cases s
  · rw [e, setMode_iflags, mode]
    simp
  · rw [e, enterHBlank_iflags_getLsbD _ hj, mode]
    simp
  · exact absurd ⟨mode, last⟩ other
  · rw [e, coincidenceCheck_iflags_getLsbD _ hj, enterOamScan_iflags_getLsbD _ hj, enterOamScan_stat, State.setIo_stat,
      if_neg (by decide), kept, mode]
    simp [Bool.or_assoc, Bool.and_or_distrib_left]
  · rw [e, coincidenceCheck_iflags_getLsbD _ hj, State.setIo_stat, if_neg (by decide), mode]
    simp [mode]
  · rw [e, coincidenceCheck_iflags_getLsbD _ hj, enterOamScan_iflags_getLsbD _ hj, enterOamScan_stat, State.setIo_stat,
      if_neg (by decide), State.setIo_stat, if_neg (by decide), kept, mode]
    simp [Bool.or_assoc, Bool.and_or_distrib_left]

/-- Settles O44: the requests of each transition. -/
theorem statRequestsOnModeEntry : Obligations.StatRequestsOnModeEntry := by
  intro s c on due other
  obtain ⟨u, e, -, mode, ly, lyc, stat, iflags, -, ready, -⟩ := ppuStep_of_due on due
  rw [← mode, ← ly] at other
  rw [e, ← mode, ← lyc, ← stat, ← iflags, ← ready]
  refine ⟨?_, fun j hj ne => ?_, ?_⟩
  · rw [leaveMode_iflags_getLsbD other (by decide)]
    simp only [Bool.or_eq_true, Bool.and_eq_true, decide_eq_true_iff, true_and, or_assoc]
  · rw [leaveMode_iflags_getLsbD other hj, decide_eq_false ne, Bool.false_and, Bool.or_false]
  · obtain ⟨-, e⟩ | ⟨-, e⟩ | ⟨mode, last, -⟩ | ⟨-, -, e⟩ | ⟨-, e⟩ | ⟨-, e⟩ := leaveMode_cases u
    · rw [e, setMode_framesReady]
    · rw [e, enterHBlank_framesReady]
    · exact absurd ⟨mode, last⟩ other
    all_goals simp [e]

/-! What a program sees of a call (R360, R399). -/

/-- The bits of STAT that a program can write stay (R40, R376, R384). -/
theorem ppuStep_stat_getLsbD (c : Nat) (s : State) {j : Nat} (h : 3 ≤ j) (h' : j < 8) :
    (ppuStep c s).stat.getLsbD j = s.stat.getLsbD j := by
  have moded (stat : Byte) (m : PpuMode) : ((stat &&& 0xFC) ||| m.bits).getLsbD j = stat.getLsbD j :=
    getLsbD_stat_setMode _ _ (by omega) h'
  have checked (t : State) : (coincidenceCheck t).stat.getLsbD j = t.stat.getLsbD j :=
    (coincidenceCheck_stat_getLsbD t h').trans (if_neg (by omega))
  have line (t : State) (v : Byte) : (t.setIo 0x44 v).stat = t.stat := State.setIo_stat t 0x44 v
  cases on : s.lcdc.getLsbD 7 with
  | false =>
    obtain ⟨-, -, -, stat, -⟩ := lcdOffFreezesTheSequencer s c on
    rw [stat]
    simpa [PpuMode.bits] using moded s.stat .hBlank
  | true =>
    obtain early | due := Nat.lt_or_ge (s.lineCycles + c) s.mode.duration
    · rw [ppuStep_of_early on early]
      rfl
    · obtain ⟨u, e, -, -, -, -, stat, -⟩ := ppuStep_of_due on due
      rw [e, ← stat]
      obtain ⟨-, e⟩ | ⟨-, e⟩ | ⟨-, -, e⟩ | ⟨-, -, e⟩ | ⟨-, e⟩ | ⟨-, e⟩ := leaveMode_cases u <;> rw [e]
      · rw [setMode_stat, moded]
      · rw [enterHBlank_stat, moded]
      · rw [checked, enterVBlank_stat, moded, line]
      · rw [checked, enterOamScan_stat, moded, line]
      · rw [checked, line]
      · rw [checked, enterOamScan_stat, moded, line, line]

/-- Settles O46: a call reaches its own registers and hidden state alone (`ppuStep_shape`). -/
theorem pictureUnitIsInvisibleElsewhere : Obligations.PictureUnitIsInvisibleElsewhere := by
  intro s c x
  refine ⟨fun h44 h41 hF => ?_, fun j hj low => ppuStep_stat_getLsbD c s low hj, ?_⟩ <;>
    obtain ⟨mem, mode, lineCycles, frame, ready, hm, e⟩ := ppuStep_shape c s <;> rw [e]
  · have apart : x ∉ ppuOffsets.map fun off => BitVec.ofNat 16 (0xFF00 + off) := by
      simp only [ppuOffsets, List.map, List.mem_cons, List.not_mem_nil, or_false, not_or]
      exact ⟨hF, h41, h44⟩
    refine readByte_of_sameBut ?_ ?_ ?_ apart
    · exact hm
    · rfl
    · rfl
  · exact ⟨fun r => by cases r <;> rfl, rfl, rfl, rfl, rfl, rfl⟩

end Sys2Proof.Machine
end

section
/-! PROOFS. The renderer (62_ppu.md sections 5 to 8). It reads VRAM, OAM and registers that the sequencer leaves
(`pixelShade_of_ppuReaches`); VRAM and OAM are the bytes that `readByte` gives at their addresses (`readByte_vram`,
`readByte_oam`); the sprites are tried as a search of the list (`spriteScan_eq`). -/

namespace Sys2Proof.Machine

/-! What a call of the picture unit leaves of the picture (R390). -/

section
variable {s t : State} (h : ppuReaches s t)
include h

theorem vramAt_of_ppuReaches (a : Nat) : t.vramAt a = s.vramAt a := by
  obtain ⟨mem, _, _, _, _, hm, rfl⟩ := h
  exact hm.elsewhere .vram _ (.inl (by decide))

theorem oamAt_of_ppuReaches (i : Nat) : t.oamAt i = s.oamAt i := by
  obtain ⟨mem, _, _, _, _, hm, rfl⟩ := h
  exact hm.elsewhere .oam i (.inl (by decide))

theorem lcdc_of_ppuReaches : t.lcdc = s.lcdc := ioByte_of_ppuReaches h (by decide)

theorem tilePixel_of_ppuReaches (data row col : Nat) : tilePixel t data row col = tilePixel s data row col := by
  simp only [tilePixel, vramAt_of_ppuReaches h]

theorem planeIndex_of_ppuReaches (base py px : Nat) : planeIndex t base py px = planeIndex s base py px := by
  have data (idx : Byte) : tileData t idx = tileData s idx := by simp only [tileData, lcdc_of_ppuReaches h]
  simp only [planeIndex, tilePixel_of_ppuReaches h, vramAt_of_ppuReaches h, data]

theorem bgShade_of_ppuReaches (ly x : Nat) : bgShade t ly x = bgShade s ly x := by
  have scy : t.scy = s.scy := ioByte_of_ppuReaches h (by decide)
  have scx : t.scx = s.scx := ioByte_of_ppuReaches h (by decide)
  have wy : t.wy = s.wy := ioByte_of_ppuReaches h (by decide)
  have wx : t.wx = s.wx := ioByte_of_ppuReaches h (by decide)
  have bgp : t.bgp = s.bgp := ioByte_of_ppuReaches h (by decide)
  have covers : windowCovers t ly x = windowCovers s ly x := by simp only [windowCovers, lcdc_of_ppuReaches h, wy, wx]
  have window : winIndex t ly x = winIndex s ly x := by
    simp only [winIndex, planeIndex_of_ppuReaches h, lcdc_of_ppuReaches h, wy, wx]
  have background : bgIndex t ly x = bgIndex s ly x := by
    simp only [bgIndex, planeIndex_of_ppuReaches h, lcdc_of_ppuReaches h, scy, scx]
  simp only [bgShade, covers, window, background, lcdc_of_ppuReaches h, bgp]

theorem spriteScan_of_ppuReaches (ly x : Nat) (bg : Shade) (l : List Nat) :
    spriteScan t ly x bg l = spriteScan s ly x bg l := by
  have obp0 : t.obp0 = s.obp0 := ioByte_of_ppuReaches h (by decide)
  have obp1 : t.obp1 = s.obp1 := ioByte_of_ppuReaches h (by decide)
  have height : spriteHeight t = spriteHeight s := by rw [spriteHeight, lcdc_of_ppuReaches h, spriteHeight]
  have attr (n : Nat) : spriteAttr t n = spriteAttr s n := oamAt_of_ppuReaches h _
  have covers (n : Nat) : spriteCovers t ly x n = spriteCovers s ly x n := by
    rw [spriteCovers, spriteCovers, height, oamAt_of_ppuReaches h, oamAt_of_ppuReaches h]
  have index (n : Nat) : spriteIndex t ly x n = spriteIndex s ly x n := by
    rw [spriteIndex, spriteIndex, height, attr, tilePixel_of_ppuReaches h, oamAt_of_ppuReaches h, oamAt_of_ppuReaches h,
      oamAt_of_ppuReaches h]
  induction l with
  | nil => rfl
  | cons n rest ih => rw [spriteScan, spriteScan, ih, covers, index, attr, obp0, obp1]

theorem pixelShade_of_ppuReaches (ly x : Nat) : pixelShade t ly x = pixelShade s ly x := by
  simp only [pixelShade, spritePixel, bgShade_of_ppuReaches h, spriteScan_of_ppuReaches h, lcdc_of_ppuReaches h]

end

/-! The line that is drawn. -/

theorem scanline_length (s : State) (ly : Nat) : (scanline s ly).length = 160 := by simp [scanline]

theorem scanline_getD (s : State) (ly : Nat) {x : Nat} (h : x < 160) : (scanline s ly).getD x 0 = pixelShade s ly x := by
  simp [scanline, List.getD_eq_getElem?_getD, h]

/-- Entering HBlank draws the line `LY` (R378, R390). -/
theorem enterHBlank_frameBuffer (s : State) :
    (enterHBlank s).frameBuffer = s.frameBuffer.set s.ly.toNat (scanline (setMode .hBlank s) s.ly.toNat) := by
  simp only [enterHBlank, raiseStat_frameBuffer, setMode_ly]
  rfl

/-! The bytes of VRAM and OAM at their addresses (R51, R390). -/

theorem readByte_vram (s : State) {a : Nat} (low : 0x8000 ≤ a) (high : a < 0xA000) :
    s.readByte (BitVec.ofNat 16 a) = s.vramAt a := by
  have address : (BitVec.ofNat 16 a).toNat = a := Nat.mod_eq_of_lt (by omega)
  refine readByte_of_cell ?_ s
  rw [address]
  simp (disch := omega) only [placeOf, if_neg, if_pos]

theorem readByte_oam (s : State) {i : Nat} (h : i < 160) : s.readByte (BitVec.ofNat 16 (0xFE00 + i)) = s.oamAt i :=
  readByte_of_cell ((placeOf_eq_oam_iff h).mpr (Nat.mod_eq_of_lt (by omega))) s

/-- A colour index of a tile in VRAM, by the bytes at its addresses (R391). -/
theorem tileColour_eq (s : State) {data row : Nat} (col : Nat) (low : 0x8000 ≤ data) (high : data + 2 * row + 1 < 0xA000) :
    tileColour s data row col = tilePixel s data row col := by
  rw [tileColour, readByte_vram s (by omega) high, readByte_vram s (by omega) (by omega), tilePixel, planePixel, bitVal,
    bitVal, mul_ite]

/-! The background and the window (R391 to R393). -/

/-- The tile data of an index, signed about 0x9000 or unsigned from 0x8000 (R391). -/
theorem tileData_eq (s : State) (idx : Byte) :
    (tileData s idx : Int) =
      if s.lcdc.getLsbD 4 then 0x8000 + 16 * (idx.toNat : Int) else 0x9000 + 16 * idx.toInt := by
  have := idx.isLt
  rw [tileData, BitVec.toInt_eq_toNat_cond]
  split
  · simp
  · split <;> split <;> omega

theorem tileData_bounds (s : State) (idx : Byte) : 0x8000 ≤ tileData s idx ∧ tileData s idx < 0x9800 := by
  have := idx.isLt
  unfold tileData
  split_ifs <;> omega

/-- A colour index of the plane of tiles, by the bytes at the addresses of its map and of its tile (R391). -/
theorem planeIndex_eq (s : State) {selected : Bool} {py px data : Nat} {tile : Byte} (hy : py < 256) (hx : px < 256)
    (htile : tile = s.readByte (BitVec.ofNat 16 (tileMapBase selected + 32 * (py / 8) + px / 8)))
    (hdata : (data : Int) =
      if s.lcdc.getLsbD 4 then 0x8000 + 16 * (tile.toNat : Int) else 0x9000 + 16 * tile.toInt) :
    planeIndex s (tileMapBase selected) py px = tileColour s data (py % 8) (px % 8) := by
  obtain ⟨low, high⟩ : 0x8000 ≤ tileMapBase selected ∧ tileMapBase selected ≤ 0x9C00 := by cases selected <;> decide
  rw [readByte_vram s (by omega) (by omega)] at htile
  obtain rfl : data = tileData s tile := Int.ofNat.inj (hdata.trans (tileData_eq s tile).symm)
  obtain ⟨lowData, highData⟩ := tileData_bounds s tile
  rw [tileColour_eq s _ lowData (by omega), planeIndex, htile]

/-- A palette register gives an index its two bits (R45, R393). -/
theorem getLsbD_shadeOf (pal : Byte) (i : Nat) {j : Nat} (h : j < 2) :
    (shadeOf pal i).getLsbD j = pal.getLsbD (2 * i + j) := by
  rw [shadeOf, BitVec.getLsbD_ofNat, decide_eq_true h, Bool.true_and, show 4 ^ i = 2 ^ (2 * i) from (Nat.pow_mul 2 2 i).symm,
    Nat.testBit_div_two_pow, BitVec.getLsbD, Nat.add_comm]

/-- Settles O47: entering HBlank sets the line, whose pixels the change of mode does not reach; the shade behind the sprites is
that of a plane of tiles. -/
theorem enteringHBlankDrawsTheLine : Obligations.EnteringHBlankDrawsTheLine := by
  refine ⟨fun s c y x on mode due lines drawn => ?_,
    fun s ly x row col map data i window tile hly hx shown hwindow hrow hcol hmap htile hdata hi => ?_⟩
  · obtain ⟨u, e, -, umode, ly, -, -, -, frame, -, reached⟩ := ppuStep_of_due on (by rwa [mode])
    have inside : s.ly.toNat < s.frameBuffer.length := by omega
    rw [e, leaveMode_of_pixelTransfer (umode.trans mode), enterHBlank_frameBuffer, frame, ly]
    have line : (s.frameBuffer.set s.ly.toNat (scanline (setMode .hBlank u) s.ly.toNat)).getD s.ly.toNat [] =
        scanline (setMode .hBlank u) s.ly.toNat := by simp [List.getD_eq_getElem?_getD, inside]
    rw [line]
    refine ⟨List.length_set.trans lines, fun other => ?_, scanline_length _ _, fun hx => ?_⟩
    · simp [List.getD_eq_getElem?_getD, List.getElem?_set_ne (Ne.symm other)]
    · rw [scanline_getD _ _ hx, pixelShade_of_ppuReaches (ppuReaches_trans reached (setMode_ppu .hBlank u))]
  · have covers : windowCovers s ly x = window := by
      rw [Bool.eq_iff_iff, hwindow]
      simp [windowCovers, and_assoc]
    have plane : (if windowCovers s ly x then winIndex s ly x else bgIndex s ly x) =
        planeIndex s (tileMapBase (s.lcdc.getLsbD (if window then 6 else 3))) row col := by
      rw [covers, hrow, hcol]
      cases window <;> rfl
    have inPlane : row < 256 ∧ col < 256 := by
      rw [hrow, hcol]
      split <;> omega
    rw [hmap] at htile
    rw [bgShade, if_pos shown, plane, planeIndex_eq s inPlane.1 inPlane.2 htile hdata, ← hi]
    exact ⟨getLsbD_shadeOf s.bgp i (by decide), getLsbD_shadeOf s.bgp i (by decide)⟩

/-! The sprites (R394 to R396). -/

/-- Whether sprite `n` shows a colour at a pixel. -/
def spriteShows (s : State) (ly x n : Nat) : Bool := spriteCovers s ly x n && decide (spriteIndex s ly x n ≠ 0)

/-- What the sprite that decides a pixel makes of it: nothing where it is hidden behind the background (R396). -/
def spriteShade (s : State) (ly x : Nat) (bg : Shade) (n : Nat) : Option Shade :=
  if (spriteAttr s n).getLsbD 7 = true ∧ bg ≠ 0 then none
  else some (shadeOf (if (spriteAttr s n).getLsbD 4 then s.obp1 else s.obp0) (spriteIndex s ly x n))

/-- The loop over the sprites is a search for the first that shows a colour (R395). -/
theorem spriteScan_eq (s : State) (ly x : Nat) (bg : Shade) (l : List Nat) :
    spriteScan s ly x bg l = (l.find? (spriteShows s ly x)).bind (spriteShade s ly x bg) := by
  induction l with
  | nil => rfl
  | cons n rest ih =>
    rw [spriteScan, ih, List.find?_cons]
    by_cases shows : spriteCovers s ly x n = true ∧ spriteIndex s ly x n ≠ 0
    · have found : spriteShows s ly x n = true := by simp [spriteShows, shows]
      rw [if_pos shows, found]
      rfl
    · have passed : spriteShows s ly x n = false := by simpa [spriteShows] using shows
      rw [if_neg shows, passed]

theorem spriteShows_eq_false {s : State} {ly x n : Nat} (h : spriteCovers s ly x n = false ∨ spriteIndex s ly x n = 0) :
    spriteShows s ly x n = false := by
  obtain h | h := h <;> simp [spriteShows, h]

/-- The first sprite that shows a colour decides the pixel (R395, R396). -/
theorem pixelShade_of_first {s : State} {ly x n : Nat} (h : n < 40) (on : s.lcdc.getLsbD 1 = true)
    (shows : spriteShows s ly x n = true) (first : ∀ m < n, spriteShows s ly x m = false) :
    pixelShade s ly x = (spriteShade s ly x (bgShade s ly x) n).getD (bgShade s ly x) := by
  have found : Config.spriteOrder.find? (spriteShows s ly x) = some n :=
    List.find?_range_eq_some.mpr ⟨shows, List.mem_range.mpr h, fun m hm => by simp [first m hm]⟩
  simp only [pixelShade, spritePixel, if_pos on, spriteScan_eq, found]
  rfl

/-- Where no sprite shows a colour the background does (R395). -/
theorem pixelShade_of_none {s : State} {ly x : Nat}
    (h : s.lcdc.getLsbD 1 = false ∨ ∀ n < 40, spriteShows s ly x n = false) : pixelShade s ly x = bgShade s ly x := by
  have nothing : spritePixel s ly x (bgShade s ly x) = none := by
    rw [spritePixel]
    split
    · have hidden := h.resolve_left (ne_false_of_eq_true ‹_›)
      have unfound : Config.spriteOrder.find? (spriteShows s ly x) = none :=
        List.find?_eq_none.mpr fun n hn => by simp [hidden n (List.mem_range.mp hn)]
      rw [spriteScan_eq, unfound]
      rfl
    · rfl
  simp only [pixelShade, nothing]
  rfl

theorem spriteHeight_cases (s : State) : spriteHeight s = 8 ∨ spriteHeight s = 16 := by
  unfold spriteHeight
  split
  · exact .inr rfl
  · exact .inl rfl

/-- The lines and columns that a sprite covers, with the 16 and 8 of R394 on the other side. -/
theorem spriteCovers_iff (s : State) (ly x n : Nat) :
    spriteCovers s ly x n = true ↔
      (s.oamAt (4 * n)).toNat ≤ ly + 16 ∧ ly + 16 < (s.oamAt (4 * n)).toNat + spriteHeight s ∧
        (s.oamAt (4 * n + 1)).toNat ≤ x + 8 ∧ x < (s.oamAt (4 * n + 1)).toNat := decide_eq_true_iff

/-- The even tile of a tall sprite (R395). -/
theorem toNat_and_FE (v : Byte) : (v &&& 0xFE).toNat = v.toNat / 2 * 2 := by
  revert v
  decide

/-- The colour index of a sprite at a line and a column of its own, by the bytes of its tile (R395). -/
theorem spriteIndex_eq {s : State} {ly x n row col : Nat} (hrow : ly + 16 - (s.oamAt (4 * n)).toNat = row)
    (hcol : x + 8 - (s.oamAt (4 * n + 1)).toNat = col) (inside : row < spriteHeight s) :
    spriteIndex s ly x n =
      tileColour s (0x8000 + 16 * (if spriteHeight s = 16 then (s.oamAt (4 * n + 2)).toNat / 2 * 2
          else (s.oamAt (4 * n + 2)).toNat))
        (if (spriteAttr s n).getLsbD 6 then spriteHeight s - 1 - row else row)
        (if (spriteAttr s n).getLsbD 5 then 7 - col else col) := by
  have tile := (s.oamAt (4 * n + 2)).isLt
  have height := spriteHeight_cases s
  rw [tileColour_eq _ _ (by omega) (by split_ifs <;> omega), spriteIndex, hrow, hcol, apply_ite BitVec.toNat, toNat_and_FE]

/-- Settles O48: the sprites are searched for the first that shows a colour; its table entry is read at its addresses. -/
theorem firstOpaqueSpriteDecidesThePixel : Obligations.FirstOpaqueSpriteDecidesThePixel := by
  refine ⟨fun s ly x => ⟨fun n hn on covers shows first => ?_, fun h => ?_, fun off => if_neg (ne_true_of_eq_false off)⟩,
    fun s ly x n height row col top left tile attr hn hheight htop hleft htile hattr => ?_⟩
  · rw [pixelShade_of_first hn on (by simp [spriteShows, covers, shows]) fun m hm => spriteShows_eq_false (first m hm),
      spriteShade]
    split <;> rfl
  · exact pixelShade_of_none (h.imp id fun hidden n hn => spriteShows_eq_false (hidden n hn))
  · rw [readByte_oam s (by omega)] at htop
    rw [Nat.add_assoc, readByte_oam s (by omega)] at hleft htile hattr
    obtain rfl : height = spriteHeight s := hheight
    subst htop hleft htile hattr
    rw [spriteCovers_iff]
    refine ⟨by omega, rfl, fun covers hrow hcol => spriteIndex_eq ?_ ?_ ?_⟩ <;> omega

end Sys2Proof.Machine
end

section
/-! PROOFS. The joypad latch and the serial port (63_joypad_serial_apu.md). The latch is a function of the bits that the program
wrote and of the buttons (`joypadStep_p1`), so a second look changes nothing (`latched_joypadStep`). -/

namespace Sys2Proof.Machine

/-! The latch (R421, R422). -/

theorem getLsbD_activeLow (b0 b1 b2 b3 : Bool) : ∀ i < 4,
    (activeLow b0 b1 b2 b3).getLsbD i = !([b0, b1, b2, b3].getD i false) := by
  revert b0 b1 b2 b3
  decide

theorem getLsbD_0x0F : ∀ j < 8, (0x0F : Byte).getLsbD j = decide (j < 4) := by decide

theorem getLsbD_0xF0 : ∀ j < 8, (0xF0 : Byte).getLsbD j = decide (4 ≤ j) := by decide

/-- The latch shows a button under the select bit of its group (R422). -/
theorem getLsbD_joypadNibble (p : Byte) (b : Buttons) {i : Nat} (h : i < 4) :
    (joypadNibble p b).getLsbD i =
      ((p.getLsbD 4 || !([b.right, b.left, b.up, b.down].getD i false)) &&
        (p.getLsbD 5 || !([b.a, b.b, b.select, b.start].getD i false))) := by
  have low : (0x0F : Byte).getLsbD i = true := (getLsbD_0x0F i (by omega)).trans (decide_eq_true h)
  have dir : (if p.getLsbD 4 then 0x0F else b.directions).getLsbD i =
      (p.getLsbD 4 || !([b.right, b.left, b.up, b.down].getD i false)) := by
    rw [Buttons.directions, apply_ite (BitVec.getLsbD · i), low, getLsbD_activeLow _ _ _ _ i h, Bool.if_true_left, Bool.decide_eq_true]
  have act : (if p.getLsbD 5 then 0x0F else b.actions).getLsbD i =
      (p.getLsbD 5 || !([b.a, b.b, b.select, b.start].getD i false)) := by
    rw [Buttons.actions, apply_ite (BitVec.getLsbD · i), low, getLsbD_activeLow _ _ _ _ i h, Bool.if_true_left, Bool.decide_eq_true]
  simp only [joypadNibble, BitVec.getLsbD_and, low, Bool.true_and, dir, act]

theorem getLsbD_joypadNibble_high (p : Byte) (b : Buttons) {j : Nat} (le : 4 ≤ j) (lt : j < 8) :
    (joypadNibble p b).getLsbD j = false := by
  have zero : (0x0F : Byte).getLsbD j = false := (getLsbD_0x0F j lt).trans (decide_eq_false (by omega))
  simp only [joypadNibble, BitVec.getLsbD_and, zero, Bool.false_and]

theorem joypadStep_p1 (s : State) : (joypadStep s).p1 = (s.p1 &&& 0xF0) ||| joypadNibble s.p1 s.buttons := by
  simp only [joypadStep]
  split <;> simp [raiseIrq, State.p1, State.ioByte_setIo]

@[simp] theorem joypadStep_buttons (s : State) : (joypadStep s).buttons = s.buttons := by
  obtain ⟨mem, -, e⟩ := joypadStep_shape s
  rw [e]

theorem joypadStep_iflags (s : State) :
    (joypadStep s).iflags = if joypadNibble s.p1 s.buttons = 0x0F then s.iflags else s.iflags ||| 0x10 := by
  simp only [joypadStep]
  split <;> simp [raiseIrq, State.iflags, State.ioByte_setIo, bitMask]

theorem joypadStep_p1_low (s : State) {i : Nat} (h : i < 4) :
    (joypadStep s).p1.getLsbD i = (joypadNibble s.p1 s.buttons).getLsbD i := by
  rw [joypadStep_p1, BitVec.getLsbD_or, BitVec.getLsbD_and, getLsbD_0xF0 i (by omega),
    decide_eq_false (by omega), Bool.and_false, Bool.false_or]

theorem joypadStep_p1_high (s : State) {j : Nat} (le : 4 ≤ j) (lt : j < 8) :
    (joypadStep s).p1.getLsbD j = s.p1.getLsbD j := by
  rw [joypadStep_p1, BitVec.getLsbD_or, BitVec.getLsbD_and, getLsbD_0xF0 j lt, decide_eq_true le, Bool.and_true,
    getLsbD_joypadNibble_high _ _ le lt, Bool.or_false]

/-- The low half of the new `P1` is what the latch shows. -/
theorem joypadStep_p1_and (s : State) : (joypadStep s).p1 &&& 0x0F = joypadNibble s.p1 s.buttons := by
  refine BitVec.eq_of_getLsbD_eq fun j lt => ?_
  rw [BitVec.getLsbD_and, getLsbD_0x0F j lt]
  obtain low | high := Nat.lt_or_ge j 4
  · rw [decide_eq_true low, Bool.and_true, joypadStep_p1_low s low]
  · rw [decide_eq_false (by omega), Bool.and_false, getLsbD_joypadNibble_high _ _ high lt]

/-! A latch that shows the buttons. -/

/-- A further look at the buttons leaves `P1` as it is. -/
def Latched (s : State) : Prop := (joypadStep s).p1 = s.p1

theorem Latched.of_same {s t : State} (h : Latched s) (p1 : t.p1 = s.p1) (buttons : t.buttons = s.buttons) : Latched t := by
  unfold Latched at h ⊢
  rwa [joypadStep_p1, p1, buttons, ← joypadStep_p1]

theorem latched_joypadStep (s : State) : Latched (joypadStep s) := by
  have nibble : joypadNibble (joypadStep s).p1 s.buttons = joypadNibble s.p1 s.buttons := by
    unfold joypadNibble
    rw [joypadStep_p1_high s (j := 4) (by decide) (by decide), joypadStep_p1_high s (j := 5) (by decide) (by decide)]
  refine BitVec.eq_of_getLsbD_eq fun j lt => ?_
  obtain low | high := Nat.lt_or_ge j 4
  · rw [joypadStep_p1_low _ low, joypadStep_buttons, nibble, ← joypadStep_p1_low s low]
  · rw [joypadStep_p1_high _ high lt]

theorem latched_advanceDevices (c : Nat) (s : State) : Latched (advanceDevices c s) :=
  (latched_joypadStep _).of_same rfl rfl

theorem latched_wake {s : State} (h : Latched s) : Latched (wake s) := by
  unfold wake
  split
  · exact h.of_same rfl rfl
  · exact h

theorem latched_setClock {s : State} (n : Nat) (h : Latched s) : Latched { s with clock := n } :=
  h.of_same rfl rfl

/-- Either nothing but `wake` follows the devices, or a dispatch is followed by the devices once more. -/
theorem latched_checkInterrupts (c : Nat) {s : State} (h : Latched s) : Latched (checkInterrupts c s) := by
  obtain ⟨-, e⟩ | ⟨-, -, e⟩ | ⟨-, -, i, -, e⟩ := interruptCheck_cases s <;> rw [checkInterrupts, e] <;>
    refine latched_setClock _ ?_
  · exact h
  · exact latched_wake h
  · exact latched_advanceDevices 20 _

theorem latched_step {s t : State} (h : step s = .next t) : Latched t := by
  obtain ⟨ran, -, rfl⟩ := step_eq_next_iff.mp h
  exact latched_checkInterrupts _ (latched_advanceDevices _ _)

/-- Settles O49: the bits of `joypadNibble`, and after a step the devices have looked last (`latched_step`). -/
theorem joypadLatchShowsHeldButtons : Obligations.JoypadLatchShowsHeldButtons := by
  refine ⟨fun s i h => ⟨?_, joypadStep_p1_high s (by omega) (by omega), ?_⟩, fun s t => latched_step⟩
  · rw [joypadStep_p1_low s h, getLsbD_joypadNibble _ _ h]
    simp only [Bool.and_eq_false_iff, Bool.or_eq_false_iff, Bool.not_eq_false']
  · rw [joypadStep_p1_and, joypadStep_iflags]

/-! The serial port (R430, R431). -/

theorem writeIo_sc (s : State) (v : Byte) :
    writeIo s 0x02 v = { s.setIo 0x02 v with
      serialTrace := if v = 0x81 then s.serialTrace ++ [s.readByte 0xFF01] else s.serialTrace } := by
  have sb : (s.setIo 0x02 v).sb = s.readByte 0xFF01 := by
    rw [State.sb, State.ioByte_setIo, if_neg (by decide)]
    exact (readByte_ioAddress s (off := 0x01) (by decide)).symm
  rw [writeIo, if_neg (by decide), if_pos rfl]
  simp only [sb]
  split <;> rfl

/-- Settles O50: the meaning of offset 2 in `writeIo`, and the frame of a store (`writeByte_storeFrame`). -/
theorem serialPortHandsOverOnTheStartPattern : Obligations.SerialPortHandsOverOnTheStartPattern := by
  refine ⟨fun s v => ⟨?_, readByte_setIo_same s v (by decide), fun x other => ?_⟩,
    fun s x v other => (writeByte_storeFrame s x v).serialTrace other⟩
  · exact (writeByte_ioAddress s (off := 0x02) v (by decide)).trans (writeIo_sc s v)
  · exact (readByte_setIo s v x (by decide)).trans (if_neg fun here => other (BitVec.eq_of_toNat_eq here))

end Sys2Proof.Machine
end

section
/-! PROOFS. The cartridge as a program sees it through the router, for MBC3 and MBC5 (R104 to R107); what every controller
shares is stated with MBC1 and MBC2. -/

namespace Sys2Proof.Machine

/-! MBC3 (R104, R105). -/

/-- The bank registers of MBC3 by the range of the write. -/
theorem writeMbc3_ranges (m : Mbc3) (n : Nat) (v : Byte) :
    (n < 0x2000 → writeMbc3 m n v = { m with ramEnable := decide (v.toNat % 16 = 0xA) }) ∧
      (0x2000 ≤ n → n < 0x4000 → writeMbc3 m n v = { m with romBank := atLeastOne 7 (v.setWidth 7) }) ∧
      (0x4000 ≤ n → n < 0x6000 → writeMbc3 m n v = { m with ramBank := v.setWidth 4 }) ∧
      (0x6000 ≤ n → writeMbc3 m n v = m) := by
  rw [writeMbc3, ← enablesRam_eq]
  refine ⟨fun h => ?_, fun low high => ?_, fun low high => ?_, fun low => ?_⟩
  · rw [if_pos h]
  · rw [if_neg (by omega), if_pos high]
  · rw [if_neg (by omega), if_neg (by omega), if_pos high]
  · rw [if_neg (by omega), if_neg (by omega), if_neg (by omega)]

theorem highRomOffset_mbc3 (m : Mbc3) (n : Nat) :
    highRomOffset (.mbc3 m) n = m.romBank.toNat * 0x4000 + (n - 0x4000) := rfl

/-! MBC5 (R106, R107). -/

/-- The low 8 bits of the bank number are replaced, its bit 8 is kept. -/
theorem toNat_low_replaced (b : BitVec 9) (v : Byte) :
    (b.extractLsb' 8 1 ++ v : BitVec 9).toNat = b.toNat / 256 * 256 + v.toNat := by
  rw [BitVec.toNat_append, ← Nat.shiftLeft_add_eq_or_of_lt v.isLt, Nat.shiftLeft_eq, BitVec.extractLsb'_toNat,
    Nat.shiftRight_eq_div_pow, Nat.mod_eq_of_lt (by omega)]

/-- Bit 8 of the bank number is replaced, its low 8 bits are kept. -/
theorem toNat_high_replaced (b : BitVec 9) (v : Byte) :
    (v.setWidth 1 ++ b.setWidth 8 : BitVec 9).toNat = v.toNat % 2 * 256 + b.toNat % 256 := by
  rw [BitVec.toNat_append, ← Nat.shiftLeft_add_eq_or_of_lt (b.setWidth 8).isLt, Nat.shiftLeft_eq, BitVec.toNat_setWidth,
    BitVec.toNat_setWidth]

/-- The bank registers of MBC5 by the range of the write. -/
theorem writeMbc5_ranges (m : Mbc5) (n : Nat) (v : Byte) :
    (n < 0x2000 → writeMbc5 m n v = { m with ramEnable := decide (v.toNat % 16 = 0xA) }) ∧
      (0x2000 ≤ n → n < 0x3000 → writeMbc5 m n v = { m with romBank := (m.romBank.extractLsb' 8 1 ++ v : BitVec 9) }) ∧
      (0x3000 ≤ n → n < 0x4000 →
        writeMbc5 m n v = { m with romBank := (v.setWidth 1 ++ m.romBank.setWidth 8 : BitVec 9) }) ∧
      (0x4000 ≤ n → n < 0x6000 → writeMbc5 m n v = { m with ramBank := v.setWidth 4 }) ∧
      (0x6000 ≤ n → writeMbc5 m n v = m) := by
  rw [writeMbc5, ← enablesRam_eq]
  refine ⟨fun h => ?_, fun low high => ?_, fun low high => ?_, fun low high => ?_, fun low => ?_⟩
  · rw [if_pos h]
  · rw [if_neg (by omega), if_pos high]
  · rw [if_neg (by omega), if_neg (by omega), if_pos high]
  · rw [if_neg (by omega), if_neg (by omega), if_neg (by omega), if_pos high]
  · rw [if_neg (by omega), if_neg (by omega), if_neg (by omega), if_neg (by omega)]

theorem highRomOffset_mbc5 (m : Mbc5) (n : Nat) :
    highRomOffset (.mbc5 m) n = m.romBank.toNat * 0x4000 + (n - 0x4000) := rfl

/-- Settles O56: a write in the image's range goes to the register of its range, and a read goes through the window's offset. -/
theorem mbc3AndMbc5 : Obligations.Mbc3AndMbc5 := by
  refine fun s m n x v => ⟨fun hb => ?_, fun hb => ?_⟩
  · have write (h : x.toNat < 0x8000) : s.writeByte x v = { s with bank := .mbc3 (writeMbc3 m x.toNat v) } :=
      writeByte_rom v hb h
    obtain ⟨enable, romBank, ramBank, inert⟩ := writeMbc3_ranges m x.toNat v
    refine ⟨fun h => ?_, fun low high => ⟨_, toNat_atLeastOne (by decide) v, ?_⟩, fun low high => ?_,
      fun low high => writeByte_rom_of_inert v hb high ?_, readByte_lowRom hb, fun low high => ?_,
      fun low high => extRam_window v hb low high rfl⟩
    · rw [write (by omega), enable h]
    · rw [write (by omega), romBank low high]
    · rw [write (by omega), ramBank low high]
    · rw [writeRomRegister, inert low]
    · rw [readByte_highRom hb low high, highRomOffset_mbc3]
  · have write (h : x.toNat < 0x8000) : s.writeByte x v = { s with bank := .mbc5 (writeMbc5 n x.toNat v) } :=
      writeByte_rom v hb h
    obtain ⟨enable, romBankLow, romBankHigh, ramBank, inert⟩ := writeMbc5_ranges n x.toNat v
    refine ⟨fun h => ?_, fun low high => ⟨_, toNat_low_replaced n.romBank v, ?_⟩,
      fun low high => ⟨_, toNat_high_replaced n.romBank v, ?_⟩, fun low high => ?_,
      fun low high => writeByte_rom_of_inert v hb high ?_, readByte_lowRom hb, fun low high => ?_,
      fun low high => extRam_window v hb low high rfl⟩
    · rw [write (by omega), enable h]
    · rw [write (by omega), romBankLow low high]
    · rw [write (by omega), romBankHigh low high]
    · rw [write (by omega), ramBank low high]
    · rw [writeRomRegister, inert low]
    · rw [readByte_highRom hb low high, highRomOffset_mbc5]

end Sys2Proof.Machine
end

section
/-! PROOFS. Loading and the reset values (60_exceptions.md R337, 70_reset_and_hazards.md section 1). All of it follows from what
a load answers (`loadCartridge_eq_next_iff`): the reset state over blank memory with the image in it. -/

namespace Sys2Proof.Machine

/-! What a load answers. -/

/-- The memory of a machine that has loaded `image`, with `n` bytes of external RAM. -/
def loadedMemory (image : List Byte) (n : Nat) : Memory :=
  { blankMemory image.length n with rom := imageCells 0 image }

@[simp] theorem loadedMemory_extRamSize (image : List Byte) (n : Nat) : (loadedMemory image n).extRamSize = n := rfl

/-- The image, and 0xFF beyond its end (D23). -/
theorem romAt_loadedMemory (image : List Byte) (n k : Nat) : romAt (loadedMemory image n) k = image.getD k 0xFF := by
  by_cases inside : k < image.length
  · have cell := readCells_imageCells image 0 k
    rw [Nat.zero_add, List.getD_eq_getElem _ _ inside] at cell
    rw [List.getD_eq_getElem _ _ inside]
    exact (if_pos inside).trans cell
  · rw [List.getD_eq_default _ _ (Nat.le_of_not_lt inside)]
    exact if_neg inside

/-- A byte of the header is in the image, where the image is long enough to load. -/
theorem romAt_loadedMemory_header {image : List Byte} (n : Nat) {k : Nat} (long : 0x150 ≤ image.length) (header : k < 0x150) :
    romAt (loadedMemory image n) k = image.getD k 0 := by
  have inside : k < image.length := by omega
  rw [romAt_loadedMemory, List.getD_eq_getElem _ _ inside, List.getD_eq_getElem _ _ inside]

theorem loadCartridge_eq_next_iff {image : List Byte} {s : State} :
    loadCartridge image = .next s ↔ 0x150 ≤ image.length ∧ ∃ bank hasRam,
      controllerOf (image.getD 0x147 0) = some (bank, hasRam) ∧
      s = State.resetWith (loadedMemory image (extRamSizeOf bank hasRam (image.getD 0x149 0))) bank := by
  have minLength : Config.minImageLength = 0x150 := rfl
  by_cases long : 0x150 ≤ image.length
  · have controller : headerController { blankMemory image.length 0 with rom := imageCells 0 image } = image.getD 0x147 0 :=
      romAt_loadedMemory_header 0 long (by decide)
    have ramSize : headerRamSizeCode { blankMemory image.length 0 with rom := imageCells 0 image } = image.getD 0x149 0 :=
      romAt_loadedMemory_header 0 long (by decide)
    rw [loadCartridge, minLength, if_neg (Nat.not_lt.mpr long)]
    simp only [controller, ramSize, long, true_and]
    cases controllerOf (image.getD 0x147 0) with
    | none => simp
    | some p =>
      constructor
      · intro loads
        cases loads
        exact ⟨p.1, p.2, rfl, rfl⟩
      · rintro ⟨bank, hasRam, table, rfl⟩
        cases table
        rfl
  · rw [loadCartridge, minLength, if_pos (Nat.lt_of_not_le long)]
    simp [long]

/-! The table of controllers (R92, D20). -/

theorem controllerOf_isSome_iff (code : Byte) : (controllerOf code).isSome = true ↔ code.toNat ∈
    [0x00, 0x01, 0x02, 0x03, 0x05, 0x06, 0x0F, 0x11, 0x10, 0x12, 0x13, 0x19, 0x1C, 0x1A, 0x1B, 0x1D, 0x1E] := by
  revert code
  decide

theorem controllerOf_bank {code : Byte} {bank : BankState} {hasRam : Bool} (h : controllerOf code = some (bank, hasRam)) :
    bank = .noBanking ∨ bank = resetMbc1 ∨ bank = resetMbc2 ∨ bank = resetMbc3 ∨ bank = resetMbc5 := by
  unfold controllerOf at h
  split at h <;> cases h <;> simp

/-- The size of external RAM by controller-type byte (R93). -/
theorem extRamSizeOf_controllerOf {code : Byte} {bank : BankState} {hasRam : Bool} (size : Byte)
    (h : controllerOf code = some (bank, hasRam)) :
    extRamSizeOf bank hasRam size =
      if code.toNat ∈ [0x05, 0x06] then 512
      else if code.toNat ∈ [0x02, 0x03, 0x10, 0x12, 0x13, 0x1A, 0x1B, 0x1D, 0x1E] then ramSizeOf size
      else 0 := by
  unfold controllerOf at h
  split at h <;> cases h <;> simp_all [extRamSizeOf, resetMbc1, resetMbc2, resetMbc3, resetMbc5]

theorem ramSizeOf_listed {size : Byte} (h : size.toNat ≤ 5) :
    ramSizeOf size = [0, 2048, 8192, 32768, 131072, 65536].getD size.toNat 0 := by
  unfold ramSizeOf
  interval_cases size.toNat <;> rfl

/-! The two windows on the image at reset (R455). -/

theorem lowRomOffset_reset {code : Byte} {bank : BankState} {hasRam : Bool} (h : controllerOf code = some (bank, hasRam))
    (n : Nat) : lowRomOffset bank n = n := by
  obtain rfl | rfl | rfl | rfl | rfl := controllerOf_bank h
  case inr.inl => exact Nat.zero_add n
  all_goals rfl

theorem highRomOffset_reset {code : Byte} {bank : BankState} {hasRam : Bool} (h : controllerOf code = some (bank, hasRam))
    {n : Nat} (high : 0x4000 ≤ n) : highRomOffset bank n = n := by
  obtain rfl | rfl | rfl | rfl | rfl := controllerOf_bank h
  case inl => rfl
  all_goals exact Nat.add_sub_of_le high

/-- A machine that loads shows its image at 0x0000 to 0x7FFF. -/
theorem readByte_of_loads {image : List Byte} {s : State} (h : loadCartridge image = .next s) {x : Word}
    (rom : x.toNat < 0x8000) : s.readByte x = image.getD x.toNat 0xFF := by
  obtain ⟨-, bank, hasRam, controller, rfl⟩ := loadCartridge_eq_next_iff.mp h
  rw [← romAt_loadedMemory]
  by_cases low : x.toNat < 0x4000
  · rw [readByte_lowRom rfl low]
    exact congrArg _ (lowRomOffset_reset controller _)
  · rw [readByte_highRom rfl (Nat.le_of_not_lt low) rom]
    exact congrArg _ (highRomOffset_reset controller (Nat.le_of_not_lt low))

theorem exists_loads_iff (image : List Byte) :
    (∃ s, loadCartridge image = .next s) ↔ 0x150 ≤ image.length ∧ (controllerOf (image.getD 0x147 0)).isSome = true := by
  constructor
  · rintro ⟨s, loads⟩
    obtain ⟨long, bank, hasRam, controller, -⟩ := loadCartridge_eq_next_iff.mp loads
    exact ⟨long, Option.isSome_of_eq_some controller⟩
  · rintro ⟨long, listed⟩
    obtain ⟨⟨bank, hasRam⟩, controller⟩ := Option.isSome_iff_exists.mp listed
    exact ⟨_, loadCartridge_eq_next_iff.mpr ⟨long, bank, hasRam, controller, rfl⟩⟩

theorem exists_machine_iff (image : List Byte) :
    (∃ s, machineOf image = some s) ↔
      0x150 ≤ image.length ∧ (controllerOf (image.getD 0x147 0)).isSome = true ∧
        (image.getD 0x148 0).toNat ≤ 8 ∧ (image.getD 0x149 0).toNat ≤ 5 := by
  have bootable_iff : bootable image = true ↔
      0x150 ≤ image.length ∧ (controllerOf (image.getD 0x147 0)).isSome = true ∧
        (image.getD 0x148 0).toNat ≤ 8 ∧ (image.getD 0x149 0).toNat ≤ 5 := by
    simp only [bootable, Bool.and_eq_true, decide_eq_true_eq, and_assoc]
    rfl
  rw [← bootable_iff]
  simp only [machineOf_eq_some, exists_and_left]
  exact and_iff_left_of_imp loadCartridge_of_bootable

/-- Settles O58, by what a load answers (`loadCartridge_eq_next_iff`) and the tables of controllers and sizes. -/
theorem loadingFailsExactlyAsSaid : Obligations.LoadingFailsExactlyAsSaid := by
  intro image
  have exists_iff := exists_machine_iff image
  rw [← controllerOf_isSome_iff]
  refine ⟨?_, fun s loads x => readByte_of_loads loads, exists_iff, fun s machine => ?_⟩
  · rw [← not_exists, exists_loads_iff, not_and_or, Nat.not_le]
  · obtain ⟨-, -, -, size⟩ := exists_iff.mp ⟨s, machine⟩
    obtain ⟨-, loads⟩ := machineOf_eq_some.mp machine
    refine ⟨loads, ?_⟩
    obtain ⟨-, bank, hasRam, controller, rfl⟩ := loadCartridge_eq_next_iff.mp loads
    exact (extRamSizeOf_controllerOf _ controller).trans (by rw [ramSizeOf_listed size])

/-! The reset values (R451 to R454). -/

theorem readByte_reset_io (image : List Byte) (n : Nat) (bank : BankState) {off : Nat} (h : off < 0x80) :
    (State.resetWith (loadedMemory image n) bank).readByte (BitVec.ofNat 16 (0xFF00 + off)) = ioResetByte off :=
  readByte_ioAddress _ h

theorem ioResetByte_unlisted : ∀ off < 128, off ∉ [0x00, 0x04, 0x07, 0x0F, 0x40, 0x41, 0x46, 0x47, 0x48, 0x49] →
    ioResetByte off = 0x00 := by decide

/-- Settles O57: a load answers `State.resetWith` over blank I/O registers, with a controller of the table. -/
theorem resetValues : Obligations.ResetValues := by
  intro image s loads
  obtain ⟨-, bank, hasRam, controller, rfl⟩ := loadCartridge_eq_next_iff.mp loads
  have io {off : Nat} (h : off < 0x80) := readByte_reset_io image (extRamSizeOf bank hasRam (image.getD 0x149 0)) bank h
  have ie : (State.resetWith (loadedMemory image (extRamSizeOf bank hasRam (image.getD 0x149 0))) bank).readByte 0xFFFF = 0x00 := by
    rw [State.readByte_eq]
    exact congrArg _ placeOf_ie
  exact ⟨rfl, rfl, rfl, rfl, rfl, rfl, rfl, rfl, rfl, rfl, rfl, rfl, rfl, rfl, rfl,
    io (off := 0x00) (by decide), io (off := 0x04) (by decide), io (off := 0x07) (by decide), io (off := 0x0F) (by decide),
    io (off := 0x40) (by decide), io (off := 0x41) (by decide), io (off := 0x46) (by decide), io (off := 0x47) (by decide),
    io (off := 0x48) (by decide), io (off := 0x49) (by decide), ie,
    fun off h other => (io h).trans (ioResetByte_unlisted off h other),
    rfl, rfl, rfl, rfl, rfl, rfl, rfl, controllerOf_bank controller⟩

end Sys2Proof.Machine
end
